-- ==== Sys2Proof/Word.lean ====
section
/-! DEFINITION. The widths of the machine's words (00_scope.md rule R10). -/

namespace Sys2Proof

/-- A 4-bit word: accumulator, H, L, a RAM word, port data, an immediate (R10). -/
abbrev Nibble := BitVec 4

/-- An 8-bit program-memory word (R10, R70). -/
abbrev Byte := BitVec 8

/-- A 12-bit program-memory address, also the width of DC, TC1 and TC2 (R10). -/
abbrev RomAddr := BitVec 12

/-- An 8-bit data-memory address (R70). -/
abbrev RamAddr := BitVec 8

/-- A 5-bit port address (R79). -/
abbrev PortAddr := BitVec 5

end Sys2Proof
end

