-- ==== Sys2Proof/Config.lean ====
section
/-! DEFINITION. What an implementation fixes (00_scope.md rules R6, R7) and the free values: the values the spec
leaves open while the machine goes on (93_implementation_defined.md, treatment "any value"). -/

namespace Sys2Proof

/-- Parameter `PART` (R6): the two chips differ only in the sizes of ROM and RAM. -/
inductive Part where
  | tmp4740p
  | tmp4720p
  deriving DecidableEq, Repr

/-- Parameter `IOCODE` (R7): the input/output circuit code, a mask option. -/
inductive IoCode where
  | aa
  | ae
  | af
  | ah
  | ai
  deriving DecidableEq, Repr

/-- A free 4-bit value, one for each index. It has no body that a proof could use: a statement about the model holds
whatever these values are. `State.freeCount` supplies the index, so two uses never share one (log 9). -/
opaque Config.freeNibble : Nat → Nibble

end Sys2Proof
end

