-- ==== Sys2Proof/Syntax.lean ====
section
/-! DEFINITION. The abstract syntax: one constructor per row of spec/opcode_table.json, in the table's order. Operands have
exactly the width of their encoding field (00_scope.md rule R18, 30_encoding.md rule R113), so no operand value is lost. -/

namespace Sys2Proof

/-- The 90 instructions (30_encoding.md rule R110). -/
inductive Instr where
  /-- `LD A, @HL` (40_move.md rule R150). -/
  | ldAHL
  /-- `LD A, x` (40_move.md rule R151). -/
  | ldAX (x : BitVec 8)
  /-- `LD A, #k` (40_move.md rule R152). -/
  | ldAK (k : BitVec 4)
  /-- `LD HL, x` (40_move.md rule R153). -/
  | ldHLX (x : BitVec 8)
  /-- `LD H, #k` (40_move.md rule R154). -/
  | ldHK (k : BitVec 4)
  /-- `LD L, #k` (40_move.md rule R155). -/
  | ldLK (k : BitVec 4)
  /-- `LDL A, @DC` (40_move.md rule R157). -/
  | ldlADC
  /-- `LDH A, @DC+` (40_move.md rule R158). -/
  | ldhADCInc
  /-- `ST A, @HL` (40_move.md rule R159). -/
  | stAHL
  /-- `ST A, @HL+` (40_move.md rule R160). -/
  | stAHLInc
  /-- `ST A, @HL-` (40_move.md rule R161). -/
  | stAHLDec
  /-- `ST A, x` (40_move.md rule R162). -/
  | stAX (x : BitVec 8)
  /-- `ST #k, @HL+` (40_move.md rule R163). -/
  | stKHLInc (k : BitVec 4)
  /-- `ST #k, y` (40_move.md rule R164). -/
  | stKY (k : BitVec 4) (y : BitVec 4)
  /-- `MOV H, A` (40_move.md rule R165). -/
  | movHA
  /-- `MOV L, A` (40_move.md rule R166). -/
  | movLA
  /-- `XCH A, H` (40_move.md rule R167). -/
  | xchAH
  /-- `XCH A, L` (40_move.md rule R168). -/
  | xchAL
  /-- `XCH A, EIR` (40_move.md rule R169). -/
  | xchAEIR
  /-- `XCH A, @HL` (40_move.md rule R170). -/
  | xchAHL
  /-- `XCH A, x` (40_move.md rule R171). -/
  | xchAX (x : BitVec 8)
  /-- `XCH HL, x` (40_move.md rule R172). -/
  | xchHLX (x : BitVec 8)
  /-- `CMPR A, @HL` (41_compare.md rule R181). -/
  | cmprAHL
  /-- `CMPR A, x` (41_compare.md rule R182). -/
  | cmprAX (x : BitVec 8)
  /-- `CMPR A, #k` (41_compare.md rule R183). -/
  | cmprAK (k : BitVec 4)
  /-- `CMPR H, #k` (41_compare.md rule R184). -/
  | cmprHK (k : BitVec 4)
  /-- `CMPR L, #k` (41_compare.md rule R185). -/
  | cmprLK (k : BitVec 4)
  /-- `CMPR y, #k` (41_compare.md rule R186). -/
  | cmprYK (y : BitVec 4) (k : BitVec 4)
  /-- `INC A` (42_arithmetic.md rule R191). -/
  | incA
  /-- `INC L` (42_arithmetic.md rule R192). -/
  | incL
  /-- `INC @HL` (42_arithmetic.md rule R193). -/
  | incHL
  /-- `DEC A` (42_arithmetic.md rule R194). -/
  | decA
  /-- `DEC L` (42_arithmetic.md rule R195). -/
  | decL
  /-- `DEC @HL` (42_arithmetic.md rule R196). -/
  | decHL
  /-- `ADDC A, @HL` (42_arithmetic.md rule R197). -/
  | addcAHL
  /-- `ADD A, @HL` (42_arithmetic.md rule R198). -/
  | addAHL
  /-- `ADD A, #k` (42_arithmetic.md rule R199). -/
  | addAK (k : BitVec 4)
  /-- `ADD H, #k` (42_arithmetic.md rule R200). -/
  | addHK (k : BitVec 4)
  /-- `ADD L, #k` (42_arithmetic.md rule R201). -/
  | addLK (k : BitVec 4)
  /-- `ADD @HL, #k` (42_arithmetic.md rule R202). -/
  | addHLK (k : BitVec 4)
  /-- `ADD y, #k` (42_arithmetic.md rule R203). -/
  | addYK (y : BitVec 4) (k : BitVec 4)
  /-- `SUBRC A, @HL` (42_arithmetic.md rule R204). -/
  | subrcAHL
  /-- `SUBR A, #k` (42_arithmetic.md rule R205). -/
  | subrAK (k : BitVec 4)
  /-- `SUBR @HL, #k` (42_arithmetic.md rule R206). -/
  | subrHLK (k : BitVec 4)
  /-- `ROLC A` (43_logical.md rule R216). -/
  | rolcA
  /-- `RORC A` (43_logical.md rule R217). -/
  | rorcA
  /-- `AND A, @HL` (43_logical.md rule R218). -/
  | andAHL
  /-- `AND A, #k` (43_logical.md rule R219). -/
  | andAK (k : BitVec 4)
  /-- `AND @HL, #k` (43_logical.md rule R220). -/
  | andHLK (k : BitVec 4)
  /-- `OR A, @HL` (43_logical.md rule R221). -/
  | orAHL
  /-- `OR A, #k` (43_logical.md rule R222). -/
  | orAK (k : BitVec 4)
  /-- `OR @HL, #k` (43_logical.md rule R223). -/
  | orHLK (k : BitVec 4)
  /-- `XOR A, @HL` (43_logical.md rule R224). -/
  | xorAHL
  /-- `TEST CF` (44_bit.md rule R231). -/
  | testCF
  /-- `TEST A, b` (44_bit.md rule R232). -/
  | testAB (b : BitVec 2)
  /-- `TEST @HL, b` (44_bit.md rule R233). -/
  | testHLB (b : BitVec 2)
  /-- `TEST y, b` (44_bit.md rule R234). -/
  | testYB (y : BitVec 4) (b : BitVec 2)
  /-- `TEST %p, b` (44_bit.md rule R235). -/
  | testPB (p : BitVec 4) (b : BitVec 2)
  /-- `TEST @L` (44_bit.md rule R236). -/
  | testL
  /-- `TESTP CF` (44_bit.md rule R237). -/
  | testpCF
  /-- `TESTP ZF` (44_bit.md rule R238). -/
  | testpZF
  /-- `TESTP GF` (44_bit.md rule R239). -/
  | testpGF
  /-- `TESTP y, b` (44_bit.md rule R240). -/
  | testpYB (y : BitVec 4) (b : BitVec 2)
  /-- `TESTP %p, b` (44_bit.md rule R241). -/
  | testpPB (p : BitVec 4) (b : BitVec 2)
  /-- `SET GF` (44_bit.md rule R242). -/
  | setGF
  /-- `SET @HL, b` (44_bit.md rule R243). -/
  | setHLB (b : BitVec 2)
  /-- `SET y, b` (44_bit.md rule R244). -/
  | setYB (y : BitVec 4) (b : BitVec 2)
  /-- `SET %p, b` (44_bit.md rule R245). -/
  | setPB (p : BitVec 4) (b : BitVec 2)
  /-- `SET @L` (44_bit.md rule R246). -/
  | setL
  /-- `CLR GF` (44_bit.md rule R247). -/
  | clrGF
  /-- `CLR @HL, b` (44_bit.md rule R248). -/
  | clrHLB (b : BitVec 2)
  /-- `CLR y, b` (44_bit.md rule R249). -/
  | clrYB (y : BitVec 4) (b : BitVec 2)
  /-- `CLR %p, b` (44_bit.md rule R250). -/
  | clrPB (p : BitVec 4) (b : BitVec 2)
  /-- `CLR @L` (44_bit.md rule R251). -/
  | clrL
  /-- `CLR IL, r` (44_bit.md rule R252). -/
  | clrIL (r : BitVec 6)
  /-- `EICLR IL, r` (44_bit.md rule R253). -/
  | eiclrIL (r : BitVec 6)
  /-- `DICLR IL, r` (44_bit.md rule R254). -/
  | diclrIL (r : BitVec 6)
  /-- `IN %p, A` (45_io.md rule R266). -/
  | inPA (p : BitVec 4)
  /-- `IN %p, @HL` (45_io.md rule R267). -/
  | inPHL (p : BitVec 4)
  /-- `OUT A, %p` (45_io.md rule R268). -/
  | outAP (p : BitVec 5)
  /-- `OUT @HL, %p` (45_io.md rule R269). -/
  | outHLP (p : BitVec 5)
  /-- `OUT #k, %p` (45_io.md rule R270). -/
  | outKP (k : BitVec 4) (p : BitVec 4)
  /-- `OUTB @HL` (45_io.md rule R271). -/
  | outbHL
  /-- `BS a` (46_branch_other.md rule R287). -/
  | bs (a : BitVec 12)
  /-- `BSS a` (46_branch_other.md rule R288). -/
  | bss (d : BitVec 6)
  /-- `CALL a` (46_branch_other.md rule R289). -/
  | call (a : BitVec 11)
  /-- `CALLS a` (46_branch_other.md rule R290). -/
  | calls (n : BitVec 4)
  /-- `RET` (46_branch_other.md rule R291). -/
  | ret
  /-- `RETI` (46_branch_other.md rule R292). -/
  | reti
  /-- `NOP` (46_branch_other.md rule R293). -/
  | nop
  deriving DecidableEq, Repr

end Sys2Proof
end

