-- ==== Sys2Proof/WellFormed.lean ====
section
/-! DEFINITION. Which instructions a program may contain. Every operand has exactly its field's width, so the only
ill-formed terms are the ones the `constraint` entries of spec/opcode_table.json exclude: a port address that the
instruction's column of Table 1.7.1 (20_memory.md rule R80) does not mark. Such a term still encodes and decodes
(30_encoding.md rule R141); its execution is refused (R82, R83). -/

namespace Sys2Proof

/-- Ports an `IN` may name: the column `IN %p,A / IN %p,@HL` of R80. -/
def inPorts : List Nat := [0x0, 0x1, 0x2, 0x4, 0x5, 0x6, 0x7, 0x8, 0x9, 0xE, 0xF]

/-- Ports a `TEST %p` or `TESTP %p` may name: the column `TEST/TESTP %p,b` of R80. -/
def testPorts : List Nat := [0x0, 0x1, 0x2, 0x4, 0x5, 0x6, 0x7, 0x8, 0x9, 0xE]

/-- Ports a `SET %p` or `CLR %p` may name: the column `SET/CLR %p,b` of R80. -/
def setClrPorts : List Nat := [0x1, 0x2, 0x4, 0x5, 0x6, 0x7, 0x8, 0x9]

/-- Ports an `OUT #k,%p` may name: the column `OUT #k,%p` of R80. -/
def outImmPorts : List Nat := [0x1, 0x2, 0x4, 0x5, 0x6, 0x7, 0x8, 0x9, 0xF]

/-- Ports an `OUT A,%p` or `OUT @HL,%p` may name: the column `OUT A,%p / OUT @HL,%p` of R80. -/
def outPorts : List Nat :=
  [0x01, 0x02, 0x04, 0x05, 0x06, 0x07, 0x08, 0x09, 0x0F, 0x19, 0x1C, 0x1D, 0x1F]

/-- The instruction names only ports its column of R80 allows. -/
def Instr.wellFormed (i : Instr) : Bool :=
  match i with
  | .ldAHL => true
  | .ldAX _ => true
  | .ldAK _ => true
  | .ldHLX _ => true
  | .ldHK _ => true
  | .ldLK _ => true
  | .ldlADC => true
  | .ldhADCInc => true
  | .stAHL => true
  | .stAHLInc => true
  | .stAHLDec => true
  | .stAX _ => true
  | .stKHLInc _ => true
  | .stKY _ _ => true
  | .movHA => true
  | .movLA => true
  | .xchAH => true
  | .xchAL => true
  | .xchAEIR => true
  | .xchAHL => true
  | .xchAX _ => true
  | .xchHLX _ => true
  | .cmprAHL => true
  | .cmprAX _ => true
  | .cmprAK _ => true
  | .cmprHK _ => true
  | .cmprLK _ => true
  | .cmprYK _ _ => true
  | .incA => true
  | .incL => true
  | .incHL => true
  | .decA => true
  | .decL => true
  | .decHL => true
  | .addcAHL => true
  | .addAHL => true
  | .addAK _ => true
  | .addHK _ => true
  | .addLK _ => true
  | .addHLK _ => true
  | .addYK _ _ => true
  | .subrcAHL => true
  | .subrAK _ => true
  | .subrHLK _ => true
  | .rolcA => true
  | .rorcA => true
  | .andAHL => true
  | .andAK _ => true
  | .andHLK _ => true
  | .orAHL => true
  | .orAK _ => true
  | .orHLK _ => true
  | .xorAHL => true
  | .testCF => true
  | .testAB _ => true
  | .testHLB _ => true
  | .testYB _ _ => true
  | .testPB p _ => testPorts.contains p.toNat
  | .testL => true
  | .testpCF => true
  | .testpZF => true
  | .testpGF => true
  | .testpYB _ _ => true
  | .testpPB p _ => testPorts.contains p.toNat
  | .setGF => true
  | .setHLB _ => true
  | .setYB _ _ => true
  | .setPB p _ => setClrPorts.contains p.toNat
  | .setL => true
  | .clrGF => true
  | .clrHLB _ => true
  | .clrYB _ _ => true
  | .clrPB p _ => setClrPorts.contains p.toNat
  | .clrL => true
  | .clrIL _ => true
  | .eiclrIL _ => true
  | .diclrIL _ => true
  | .inPA p => inPorts.contains p.toNat
  | .inPHL p => inPorts.contains p.toNat
  | .outAP p => outPorts.contains p.toNat
  | .outHLP p => outPorts.contains p.toNat
  | .outKP _ p => outImmPorts.contains p.toNat
  | .outbHL => true
  | .bs _ => true
  | .bss _ => true
  | .call _ => true
  | .calls _ => true
  | .ret => true
  | .reti => true
  | .nop => true

end Sys2Proof
end

