-- ==== Sys2Proof/Decode.lean ====
section
/-! DEFINITION. Decoding (30_encoding.md): total on any bytes, one instruction for each defined encoding (R120-R131),
every reserved encoding rejected by name (R140). The encoder, from the same tables, follows it. -/

namespace Sys2Proof

/-- Why bytes are no instruction. -/
inductive DecodeError where
  /-- There is no byte to decode. -/
  | noByte
  /-- The first byte announces a second one (R112) and there is none. -/
  | noSecondByte (b1 : Byte)
  /-- The first byte is the blank code 1C (R140). -/
  | reservedFirst (b1 : Byte)
  /-- The second byte is reserved in its group (R131, R140). -/
  | reservedSecond (b1 b2 : Byte)
  deriving DecidableEq, Repr

/-- The high nibble of a byte. -/
def hiNibble (b : Byte) : Nibble := b.extractLsb' 4 4

/-- The low nibble of a byte. -/
def loNibble (b : Byte) : Nibble := b.extractLsb' 0 4

/-- The first bytes of two-byte instructions (R112). -/
def isTwoByte (b1 : Byte) : Bool :=
  let n := b1.toNat
  (0x20 ≤ n && n ≤ 0x29) || (0x2C ≤ n && n ≤ 0x2F) || n == 0x36 || (0x38 ≤ n && n ≤ 0x3F) || (0x60 ≤ n && n ≤ 0x6F)

/-- The one-byte instructions without a field, format F1 (R113, R130). -/
def decodeFixed (b1 : Byte) : Option Instr :=
  match b1.toNat with
  | 0x00 => some .nop
  | 0x01 => some .testpGF
  | 0x02 => some .clrGF
  | 0x03 => some .setGF
  | 0x04 => some .testpCF
  | 0x05 => some .rolcA
  | 0x06 => some .testCF
  | 0x07 => some .rorcA
  | 0x08 => some .incA
  | 0x09 => some .decA
  | 0x0A => some .incHL
  | 0x0B => some .decHL
  | 0x0C => some .ldAHL
  | 0x0D => some .xchAHL
  | 0x0E => some .testpZF
  | 0x0F => some .stAHL
  | 0x10 => some .movHA
  | 0x11 => some .movLA
  | 0x12 => some .outbHL
  | 0x13 => some .xchAEIR
  | 0x14 => some .subrcAHL
  | 0x15 => some .addcAHL
  | 0x16 => some .cmprAHL
  | 0x17 => some .addAHL
  | 0x18 => some .incL
  | 0x19 => some .decL
  | 0x1A => some .stAHLInc
  | 0x1B => some .stAHLDec
  | 0x1D => some .orAHL
  | 0x1E => some .andAHL
  | 0x1F => some .xorAHL
  | 0x2A => some .ret
  | 0x2B => some .reti
  | 0x30 => some .xchAH
  | 0x31 => some .xchAL
  | 0x32 => some .ldhADCInc
  | 0x33 => some .ldlADC
  | 0x34 => some .setL
  | 0x35 => some .clrL
  | 0x37 => some .testL
  | _ => none

/-- The one-byte instructions with a field: formats F2, F3, F4 (R113, R130). -/
def decodeField (b1 : Byte) : Option Instr :=
  match (hiNibble b1).toNat with
  | 0x4 => some (.ldAK (loNibble b1))
  | 0x5 =>
    let b := b1.extractLsb' 0 2
    match (b1.extractLsb' 2 2).toNat with
    | 0 => some (.setHLB b)
    | 1 => some (.clrHLB b)
    | 2 => some (.testHLB b)
    | _ => some (.testAB b)
  | 0x7 => some (.calls (loNibble b1))
  | 0x8 | 0x9 | 0xA | 0xB => some (.bss (b1.extractLsb' 0 6))
  | 0xC => some (.ldHK (loNibble b1))
  | 0xD => some (.cmprAK (loNibble b1))
  | 0xE => some (.ldLK (loNibble b1))
  | 0xF => some (.stKHLInc (loNibble b1))
  | _ => none

/-- Group OP36, format F9 (R131): the interrupt latch instructions. -/
def decode36 (b2 : Byte) : Option Instr :=
  let r := b2.extractLsb' 0 6
  match (b2.extractLsb' 6 2).toNat with
  | 1 => some (.eiclrIL r)
  | 2 => some (.diclrIL r)
  | 3 => some (.clrIL r)
  | _ => none

/-- Group OP38, format F7 (R124, R131). -/
def decode38 (b2 : Byte) : Option Instr :=
  let k := loNibble b2
  match (hiNibble b2).toNat with
  | 0x0 => some (.addAK k)
  | 0x1 => some (.subrAK k)
  | 0x2 => some (.orAK k)
  | 0x3 => some (.andAK k)
  | 0x4 => some (.addHLK k)
  | 0x5 => some (.subrHLK k)
  | 0x6 => some (.orHLK k)
  | 0x7 => some (.andHLK k)
  | 0x8 => some (.addLK k)
  | 0x9 => some (.cmprLK k)
  | 0xC => some (.addHK k)
  | 0xD => some (.cmprHK k)
  | _ => none

/-- Group OP39, format F8 with m = 0 (R131): bit instructions on page 0. -/
def decode39 (b2 : Byte) : Instr :=
  let b := b2.extractLsb' 4 2
  let y := loNibble b2
  match (b2.extractLsb' 6 2).toNat with
  | 0 => .setYB y b
  | 1 => .clrYB y b
  | 2 => .testYB y b
  | _ => .testpYB y b

/-- Group OP3A, format F10 (R126, R131): input and output. The 5-bit port of an output is bit 5, then bits 3-0. -/
def decode3A (b2 : Byte) : Option Instr :=
  let p := loNibble b2
  let p5 := b2.extractLsb' 5 1 ++ p
  match (hiNibble b2).toNat with
  | 0x2 => some (.inPA p)
  | 0x6 => some (.inPHL p)
  | 0x8 | 0xA => some (.outAP p5)
  | 0xC | 0xE => some (.outHLP p5)
  | _ => none

/-- Group OP3B, format F8 with m = 1 (R131): bit instructions on ports. -/
def decode3B (b2 : Byte) : Instr :=
  let b := b2.extractLsb' 4 2
  let p := loNibble b2
  match (b2.extractLsb' 6 2).toNat with
  | 0 => .setPB p b
  | 1 => .clrPB p b
  | 2 => .testPB p b
  | _ => .testpPB p b

/-- The two-byte instructions (R113 formats F5 to F12, R130). -/
def decodeTwo (b1 b2 : Byte) : Option Instr :=
  let h := hiNibble b2
  let l := loNibble b2
  match b1.toNat with
  | 0x28 => some (.ldHLX b2)
  | 0x29 => some (.xchHLX b2)
  | 0x2C => some (.outKP h l)
  | 0x2D => some (.stKY h l)
  | 0x2E => some (.cmprYK l h)
  | 0x2F => some (.addYK l h)
  | 0x36 => decode36 b2
  | 0x38 => decode38 b2
  | 0x39 => some (decode39 b2)
  | 0x3A => decode3A b2
  | 0x3B => some (decode3B b2)
  | 0x3C => some (.ldAX b2)
  | 0x3D => some (.xchAX b2)
  | 0x3E => some (.cmprAX b2)
  | 0x3F => some (.stAX b2)
  | n =>
    if n / 8 = 4 then some (.call (b1.extractLsb' 0 3 ++ b2))
    else if n / 16 = 6 then some (.bs (loNibble b1 ++ b2))
    else none

/-- Decodes the instruction at the head of `bytes` (R111, R112) and returns the bytes after it. -/
def decode (bytes : List Byte) : Except DecodeError (Instr × List Byte) :=
  match bytes with
  | [] => .error .noByte
  | b1 :: rest =>
    if isTwoByte b1 then
      match rest with
      | [] => .error (.noSecondByte b1)
      | b2 :: rest' =>
        match decodeTwo b1 b2 with
        | some i => .ok (i, rest')
        | none => .error (.reservedSecond b1 b2)
    else
      match decodeFixed b1 with
      | some i => .ok (i, rest)
      | none =>
        match decodeField b1 with
        | some i => .ok (i, rest)
        | none => .error (.reservedFirst b1)

/-- The length of an instruction in bytes (R110, R112; column `length` of the opcode table). -/
def instrLength (i : Instr) : Nat :=
  match i with
  | .ldAHL => 1
  | .ldAX _ => 2
  | .ldAK _ => 1
  | .ldHLX _ => 2
  | .ldHK _ => 1
  | .ldLK _ => 1
  | .ldlADC => 1
  | .ldhADCInc => 1
  | .stAHL => 1
  | .stAHLInc => 1
  | .stAHLDec => 1
  | .stAX _ => 2
  | .stKHLInc _ => 1
  | .stKY _ _ => 2
  | .movHA => 1
  | .movLA => 1
  | .xchAH => 1
  | .xchAL => 1
  | .xchAEIR => 1
  | .xchAHL => 1
  | .xchAX _ => 2
  | .xchHLX _ => 2
  | .cmprAHL => 1
  | .cmprAX _ => 2
  | .cmprAK _ => 1
  | .cmprHK _ => 2
  | .cmprLK _ => 2
  | .cmprYK _ _ => 2
  | .incA => 1
  | .incL => 1
  | .incHL => 1
  | .decA => 1
  | .decL => 1
  | .decHL => 1
  | .addcAHL => 1
  | .addAHL => 1
  | .addAK _ => 2
  | .addHK _ => 2
  | .addLK _ => 2
  | .addHLK _ => 2
  | .addYK _ _ => 2
  | .subrcAHL => 1
  | .subrAK _ => 2
  | .subrHLK _ => 2
  | .rolcA => 1
  | .rorcA => 1
  | .andAHL => 1
  | .andAK _ => 2
  | .andHLK _ => 2
  | .orAHL => 1
  | .orAK _ => 2
  | .orHLK _ => 2
  | .xorAHL => 1
  | .testCF => 1
  | .testAB _ => 1
  | .testHLB _ => 1
  | .testYB _ _ => 2
  | .testPB _ _ => 2
  | .testL => 1
  | .testpCF => 1
  | .testpZF => 1
  | .testpGF => 1
  | .testpYB _ _ => 2
  | .testpPB _ _ => 2
  | .setGF => 1
  | .setHLB _ => 1
  | .setYB _ _ => 2
  | .setPB _ _ => 2
  | .setL => 1
  | .clrGF => 1
  | .clrHLB _ => 1
  | .clrYB _ _ => 2
  | .clrPB _ _ => 2
  | .clrL => 1
  | .clrIL _ => 2
  | .eiclrIL _ => 2
  | .diclrIL _ => 2
  | .inPA _ => 2
  | .inPHL _ => 2
  | .outAP _ => 2
  | .outHLP _ => 2
  | .outKP _ _ => 2
  | .outbHL => 1
  | .bs _ => 2
  | .bss _ => 1
  | .call _ => 2
  | .calls _ => 1
  | .ret => 1
  | .reti => 1
  | .nop => 1

/-- The bytes of an instruction, the first byte first (R120-R128). -/
def encode (i : Instr) : List Byte :=
  match i with
  | .ldAHL => [0x0C#8]
  | .ldAX x => [0x3C#8, x]
  | .ldAK k => [0x4#4 ++ k]
  | .ldHLX x => [0x28#8, x]
  | .ldHK k => [0xC#4 ++ k]
  | .ldLK k => [0xE#4 ++ k]
  | .ldlADC => [0x33#8]
  | .ldhADCInc => [0x32#8]
  | .stAHL => [0x0F#8]
  | .stAHLInc => [0x1A#8]
  | .stAHLDec => [0x1B#8]
  | .stAX x => [0x3F#8, x]
  | .stKHLInc k => [0xF#4 ++ k]
  | .stKY k y => [0x2D#8, k ++ y]
  | .movHA => [0x10#8]
  | .movLA => [0x11#8]
  | .xchAH => [0x30#8]
  | .xchAL => [0x31#8]
  | .xchAEIR => [0x13#8]
  | .xchAHL => [0x0D#8]
  | .xchAX x => [0x3D#8, x]
  | .xchHLX x => [0x29#8, x]
  | .cmprAHL => [0x16#8]
  | .cmprAX x => [0x3E#8, x]
  | .cmprAK k => [0xD#4 ++ k]
  | .cmprHK k => [0x38#8, 0xD#4 ++ k]
  | .cmprLK k => [0x38#8, 0x9#4 ++ k]
  | .cmprYK y k => [0x2E#8, k ++ y]
  | .incA => [0x08#8]
  | .incL => [0x18#8]
  | .incHL => [0x0A#8]
  | .decA => [0x09#8]
  | .decL => [0x19#8]
  | .decHL => [0x0B#8]
  | .addcAHL => [0x15#8]
  | .addAHL => [0x17#8]
  | .addAK k => [0x38#8, 0x0#4 ++ k]
  | .addHK k => [0x38#8, 0xC#4 ++ k]
  | .addLK k => [0x38#8, 0x8#4 ++ k]
  | .addHLK k => [0x38#8, 0x4#4 ++ k]
  | .addYK y k => [0x2F#8, k ++ y]
  | .subrcAHL => [0x14#8]
  | .subrAK k => [0x38#8, 0x1#4 ++ k]
  | .subrHLK k => [0x38#8, 0x5#4 ++ k]
  | .rolcA => [0x05#8]
  | .rorcA => [0x07#8]
  | .andAHL => [0x1E#8]
  | .andAK k => [0x38#8, 0x3#4 ++ k]
  | .andHLK k => [0x38#8, 0x7#4 ++ k]
  | .orAHL => [0x1D#8]
  | .orAK k => [0x38#8, 0x2#4 ++ k]
  | .orHLK k => [0x38#8, 0x6#4 ++ k]
  | .xorAHL => [0x1F#8]
  | .testCF => [0x06#8]
  | .testAB b => [0b010111#6 ++ b]
  | .testHLB b => [0b010110#6 ++ b]
  | .testYB y b => [0x39#8, 0b10#2 ++ b ++ y]
  | .testPB p b => [0x3B#8, 0b10#2 ++ b ++ p]
  | .testL => [0x37#8]
  | .testpCF => [0x04#8]
  | .testpZF => [0x0E#8]
  | .testpGF => [0x01#8]
  | .testpYB y b => [0x39#8, 0b11#2 ++ b ++ y]
  | .testpPB p b => [0x3B#8, 0b11#2 ++ b ++ p]
  | .setGF => [0x03#8]
  | .setHLB b => [0b010100#6 ++ b]
  | .setYB y b => [0x39#8, 0b00#2 ++ b ++ y]
  | .setPB p b => [0x3B#8, 0b00#2 ++ b ++ p]
  | .setL => [0x34#8]
  | .clrGF => [0x02#8]
  | .clrHLB b => [0b010101#6 ++ b]
  | .clrYB y b => [0x39#8, 0b01#2 ++ b ++ y]
  | .clrPB p b => [0x3B#8, 0b01#2 ++ b ++ p]
  | .clrL => [0x35#8]
  | .clrIL r => [0x36#8, 0b11#2 ++ r]
  | .eiclrIL r => [0x36#8, 0b01#2 ++ r]
  | .diclrIL r => [0x36#8, 0b10#2 ++ r]
  | .inPA p => [0x3A#8, 0x2#4 ++ p]
  | .inPHL p => [0x3A#8, 0x6#4 ++ p]
  | .outAP p => [0x3A#8, 0b10#2 ++ p.extractLsb' 4 1 ++ 0b0#1 ++ p.extractLsb' 0 4]
  | .outHLP p => [0x3A#8, 0b11#2 ++ p.extractLsb' 4 1 ++ 0b0#1 ++ p.extractLsb' 0 4]
  | .outKP k p => [0x2C#8, k ++ p]
  | .outbHL => [0x12#8]
  | .bs a => [0x6#4 ++ a.extractLsb' 8 4, a.extractLsb' 0 8]
  | .bss d => [0b10#2 ++ d]
  | .call a => [0b00100#5 ++ a.extractLsb' 8 3, a.extractLsb' 0 8]
  | .calls n => [0x7#4 ++ n]
  | .ret => [0x2A#8]
  | .reti => [0x2B#8]
  | .nop => [0x00#8]

/-- The instruction's bytes from a word numbered as spec/opcode_table.json numbers it. The table reads the two bytes of a
row as one 16-bit number whose HIGH byte is the first byte (R148). A 16-bit word whose high byte begins no two-byte
instruction cannot be such a row; it is read in the other numbering, the first byte lowest (log 8). -/
def tableBytes (nbits w : Nat) : List Byte :=
  let low := BitVec.ofNat 8 w
  let high := BitVec.ofNat 8 (w / 256)
  if nbits ≤ 8 then [low, 0x00#8]
  else if isTwoByte high then [high, low]
  else [low, high]

/-- The instruction the decoder reads from a row's word (none where it refuses). -/
def decodeTableWord (nbits w : Nat) : Option Instr :=
  match decode (tableBytes nbits w) with
  | .ok (i, _) => some i
  | .error _ => none

end Sys2Proof
end

