-- ==== Sys2Proof/Machine/State.lean ====
section
/-! DEFINITION. The machine's state as plain data, the reasons a step can stop, and the state after reset
(10_state.md rules R20-R60). INVENTORY.md lists every field with its rule and its reset value. -/

namespace Sys2Proof.Machine

/-- Why the machine stops with a fault. There is none: the hardware has no synchronous exception of any kind
(60_exceptions.md rule R300), so no constructor exists and no step can answer a fault (safe). -/
inductive Fault where
  deriving DecidableEq, Repr

/-- Where the spec gives no meaning and says that the model refuses (00_scope.md rule R14, `refuse`;
93_implementation_defined.md). Each is safe: the model stops where the hardware would do something unstated. -/
inductive Refusal where
  /-- Raised by `exec` for an instruction without a meaning; no arm does so. Safe. -/
  | notModelled (mnemonic : String)
  /-- Raised by `step` when PC addresses a reserved encoding (R140, U2). Safe. -/
  | reservedEncoding (b1 b2 : Byte)
  /-- Raised by a port instruction whose column of R80 does not allow the port (R82, U3). Safe. -/
  | portNotAllowed (port : PortAddr)
  /-- Raised by `OUT A,%p` and `OUT @HL,%p` with p = 11 (R83, U3). Safe. -/
  | op11ByOut
  /-- Raised by `CALL`, `CALLS`, `RET`, `RETI` and interrupt acceptance at stack level F (R39, R294, U6). Safe. -/
  | stackLevelF
  /-- Raised by the `OUT` that would enable the serial port in mode 00 (R371, U7). Safe. -/
  | serialModeUnusable
  deriving DecidableEq, Repr

/-- A memory of `w`-bit words: (address, word) pairs in one canonical form (`Memory.wf`): addresses strictly rising, no
entry equal to the word an unlisted address reads as. For `w = 8` a pair is a `Host.Cell`. -/
abbrev Memory (w : Nat) := List (Nat × BitVec w)

/-- The output latches of the ports (R46). -/
structure Ports where
  p1 : Nibble
  p2 : Nibble
  r4 : Nibble
  r5 : Nibble
  r6 : Nibble
  r7 : Nibble
  r8 : Nibble
  r9 : BitVec 3
  deriving DecidableEq, Repr

/-- The command registers (R47). -/
structure Commands where
  cmd19 : Nibble
  cmd1C : Nibble
  cmd1D : Nibble
  cmd1F : Nibble
  deriving DecidableEq, Repr

/-- The serial port's registers and control state (R48, R380, R383). -/
structure Serial where
  sr : Nibble
  sb : Nibble
  siof : Bool
  sef : Bool
  req : Bool
  nb : BitVec 2
  sbFull : Bool
  srFull : Bool
  sOut : Bool
  sckOut : Bool
  /-- The wait operation is in force: the internal shift clock has stopped (R374, R376, R379). -/
  waiting : Bool
  /-- The model's own: the registers hold no specified value (U8) until the port is re-enabled. -/
  unspec : Bool
  deriving DecidableEq, Repr

/-- The levels of the five edge-sensitive pins (R20 (i), R345). -/
structure EdgePins where
  r82 : Bool
  r80 : Bool
  r83 : Bool
  r81 : Bool
  r92 : Bool
  deriving DecidableEq, Repr

/-- What the RESET line does in the place of a step (R400, R401, R404, R414; log 7). -/
inductive LineEvent where
  /-- RESET stays high: the CPU runs one step. -/
  | run
  /-- RESET goes low between two steps, for at least three instruction cycles, and is released, with the RAM supplied
  throughout: no word was being written, so RAM holds what it held (R404). -/
  | reset
  /-- RESET goes low inside the step and abandons it: the RAM words the step was writing are unspecified (R401). -/
  | resetInStep
  /-- As `reset`, after a power-up without back-up supply: RAM holds any value. -/
  | powerUp
  deriving DecidableEq, Repr

/-- The outside world during one step: the level `Ext` at every port pin (R84, R341) and the RESET line. -/
structure Env where
  k0 : Nibble
  r4 : Nibble
  r5 : Nibble
  r6 : Nibble
  r7 : Nibble
  r8 : Nibble
  r9 : BitVec 3
  event : LineEvent
  deriving DecidableEq, Repr

/-- The state of the machine (R20), what was fixed at manufacture (R6-R8), and the outside world's inputs (R341). -/
@[ext]
structure State where
  /-- Program counter (R22). -/
  pc : RomAddr
  /-- Accumulator (R26). -/
  ac : Nibble
  /-- H register (R27). -/
  hr : Nibble
  /-- L register (R27). -/
  lr : Nibble
  /-- Carry flag (R29). -/
  cf : Bool
  /-- Zero flag (R30). -/
  zf : Bool
  /-- Status flag (R31). -/
  sf : Bool
  /-- General flag (R32). -/
  gf : Bool
  /-- Program memory, a constant of the chip (R8, R71). -/
  rom : Memory 8
  /-- Data memory with the stack, SPW, DC, TC1 and TC2 (R34-R41). -/
  ram : Memory 4
  /-- Which chip this is (R6). -/
  part : Part
  /-- Its input/output circuit code (R7). -/
  ioCode : IoCode
  /-- Enable interrupt master flip-flop (R43). -/
  eif : Bool
  /-- Enable interrupt register (R44). -/
  eir : Nibble
  /-- Interrupt latches, bit j is INTLj (R45). -/
  intl : BitVec 6
  ports : Ports
  cmds : Commands
  /-- The counter `C` of instruction cycles: bit 0 the last prescaler stage, bit k the stage FDk (R49, R350). -/
  divider : BitVec 19
  sio : Serial
  /-- Count latch of channel 1 (R50). -/
  cntl1 : Bool
  /-- Count latch of channel 2 (R50). -/
  cntl2 : Bool
  /-- The edge detectors' memories (R345). -/
  prev : EdgePins
  /-- The outside world during the step about to run (R341). -/
  env : Env
  /-- The outside world during the steps after it; when empty, the levels stay (log 6). -/
  inputs : List Env
  /-- The model's own: the index of the next free value (log 9). -/
  freeCount : Nat
  deriving DecidableEq, Repr

/-- All pins high from outside and RESET high: the levels of `State.reset` (DESIGN CHOICE, log 6). -/
def Env.allHigh : Env :=
  { k0 := 0xF#4, r4 := 0xF#4, r5 := 0xF#4, r6 := 0xF#4, r7 := 0xF#4, r8 := 0xF#4, r9 := 0b111#3, event := .run }

/-- The machine when the initialization operation is released (R60, R402), a TMP4740P with IOCODE AA and blank ROM.
AC, HR, LR, CF, ZF, GF, RAM, SR, SB and bit 0 of the divider are not initialised by the hardware (R404); the zeros here
are DESIGN CHOICE (log 2, 3, 4). -/
def State.reset : State :=
  { pc := 0x000#12
    ac := 0x0#4
    hr := 0x0#4
    lr := 0x0#4
    cf := false
    zf := false
    sf := true
    gf := false
    rom := []
    ram := []
    part := .tmp4740p
    ioCode := .aa
    eif := false
    eir := 0x0#4
    intl := 0b000000#6
    ports :=
      { p1 := 0xF#4, p2 := 0xF#4, r4 := 0xF#4, r5 := 0xF#4, r6 := 0xF#4, r7 := 0xF#4, r8 := 0xF#4, r9 := 0b111#3 }
    cmds := { cmd19 := 0x0#4, cmd1C := 0x0#4, cmd1D := 0x0#4, cmd1F := 0x0#4 }
    divider := 0#19
    sio :=
      { sr := 0x0#4, sb := 0x0#4, siof := false, sef := false, req := false, nb := 0#2, sbFull := false,
        srFull := false, sOut := true, sckOut := true, waiting := false, unspec := false }
    cntl1 := false
    cntl2 := false
    prev := { r82 := true, r80 := true, r83 := true, r81 := true, r92 := true }
    env := Env.allHigh
    inputs := []
    freeCount := 0 }

/-! The named updates of one field; Laws/State.lean says of each what every field reads after it. -/

/-- `s` with `pc` replaced. -/
def State.setPc (s : State) (v : RomAddr) : State := { s with pc := v }

/-- `s` with `ac` replaced. -/
def State.setAc (s : State) (v : Nibble) : State := { s with ac := v }

/-- `s` with `hr` replaced. -/
def State.setHr (s : State) (v : Nibble) : State := { s with hr := v }

/-- `s` with `lr` replaced. -/
def State.setLr (s : State) (v : Nibble) : State := { s with lr := v }

/-- `s` with `cf` replaced. -/
def State.setCf (s : State) (v : Bool) : State := { s with cf := v }

/-- `s` with `zf` replaced. -/
def State.setZf (s : State) (v : Bool) : State := { s with zf := v }

/-- `s` with `sf` replaced. -/
def State.setSf (s : State) (v : Bool) : State := { s with sf := v }

/-- `s` with `gf` replaced. -/
def State.setGf (s : State) (v : Bool) : State := { s with gf := v }

/-- `s` with `rom` replaced. -/
def State.setRom (s : State) (v : Memory 8) : State := { s with rom := v }

/-- `s` with `ram` replaced. -/
def State.setRam (s : State) (v : Memory 4) : State := { s with ram := v }

/-- `s` with `eif` replaced. -/
def State.setEif (s : State) (v : Bool) : State := { s with eif := v }

/-- `s` with `eir` replaced. -/
def State.setEir (s : State) (v : Nibble) : State := { s with eir := v }

/-- `s` with `intl` replaced. -/
def State.setIntl (s : State) (v : BitVec 6) : State := { s with intl := v }

/-- `s` with `ports` replaced. -/
def State.setPorts (s : State) (v : Ports) : State := { s with ports := v }

/-- `s` with `cmds` replaced. -/
def State.setCmds (s : State) (v : Commands) : State := { s with cmds := v }

/-- `s` with `divider` replaced. -/
def State.setDivider (s : State) (v : BitVec 19) : State := { s with divider := v }

/-- `s` with `sio` replaced. -/
def State.setSio (s : State) (v : Serial) : State := { s with sio := v }

/-- `s` with `cntl1` replaced. -/
def State.setCntl1 (s : State) (v : Bool) : State := { s with cntl1 := v }

/-- `s` with `cntl2` replaced. -/
def State.setCntl2 (s : State) (v : Bool) : State := { s with cntl2 := v }

/-- `s` with `prev` replaced. -/
def State.setPrev (s : State) (v : EdgePins) : State := { s with prev := v }

/-- `s` with `env` replaced. -/
def State.setEnv (s : State) (v : Env) : State := { s with env := v }

/-- `s` with `inputs` replaced. -/
def State.setInputs (s : State) (v : List Env) : State := { s with inputs := v }

/-- `s` with `freeCount` replaced. -/
def State.setFreeCount (s : State) (v : Nat) : State := { s with freeCount := v }

end Sys2Proof.Machine
end

