-- ==== Sys2Proof/Machine/Flags.lean ====
section
/-! DEFINITION. The ALU and every flag computation of the instruction rules (00_scope.md rules R14-R16,
42_arithmetic.md rule R190, 43_logical.md rule R215, 41_compare.md rule R180). -/

namespace Sys2Proof.Machine

/-- `add4(a, b, cin)` (R14): the 4-bit sum and the carry output. -/
def add4 (a b : Nibble) (cin : Bool) : Nibble × Bool :=
  let sum := a.toNat + b.toNat + cin.toNat
  (BitVec.ofNat 4 sum, decide (16 ≤ sum))

/-- `not4(v) = 15 - v` (R14). -/
def not4 (v : Nibble) : Nibble := 15#4 - v

/-- `sub4(a, b, cin)` (R15): subtraction through the adder; the second result is the non-borrow. -/
def sub4 (a b : Nibble) (cin : Bool) : Nibble × Bool := add4 a (not4 b) cin

/-- The zero detection signal `Z` (R14, R16, R30). -/
def isZero (v : Nibble) : Bool := v == 0#4

/-- ZF Z, SF ~C: the flags of an addition or increment (R190). -/
def sumFlags (r : Nibble × Bool) (s : State) : State := (s.setZf (isZero r.1)).setSf (!r.2)

/-- ZF Z, SF ~B: the flags of a subtraction or decrement, whose second result is already the non-borrow (R190). -/
def differenceFlags (r : Nibble × Bool) (s : State) : State := (s.setZf (isZero r.1)).setSf r.2

/-- ZF Z, SF ~Z: the flags of a bitwise operation and of an input to the accumulator (R215, R266). -/
def logicFlags (v : Nibble) (s : State) : State := (s.setZf (isZero v)).setSf (!isZero v)

/-- ZF Z, SF ~Z of the discarded difference: the compare instructions that leave CF (R180 (a), (c), log 16). -/
def compareFlags (minuend subtrahend : Nibble) (s : State) : State :=
  logicFlags (sub4 minuend subtrahend true).1 s

/-- The same with CF <- non-borrow: the compare instructions that write CF (R180 (b), log 16). -/
def compareFlagsCf (minuend subtrahend : Nibble) (s : State) : State :=
  (compareFlags minuend subtrahend s).setCf (sub4 minuend subtrahend true).2

/-- CF the bit rotated out of the accumulator, ZF Z, SF ~C: the flags of the rotates (R215). -/
def rotateFlags (v : Nibble) (out : Bool) (s : State) : State :=
  ((s.setCf out).setZf (isZero v)).setSf (!out)

/-- The accumulator receives `v`, ZF <- Z(v), SF <- 1: the loads, moves and exchanges (R150, R165, Note 2). -/
def loadAc (v : Nibble) (s : State) : State := ((s.setAc v).setZf (isZero v)).setSf true

/-- The flag word `CF . ZF . SF . GF` (R33, log 15). -/
def flagWord (s : State) : Nibble :=
  BitVec.ofBool s.cf ++ BitVec.ofBool s.zf ++ BitVec.ofBool s.sf ++ BitVec.ofBool s.gf

/-- The four flags from a flag word (R33, R292). -/
def restoreFlags (w : Nibble) (s : State) : State :=
  (((s.setCf (w.getLsbD 3)).setZf (w.getLsbD 2)).setSf (w.getLsbD 1)).setGf (w.getLsbD 0)

end Sys2Proof.Machine
end

