-- ==== Sys2Proof/Machine/Memory.lean ====
section
/-! DEFINITION. Reading and writing one word of a memory held as (address, word) pairs, and the canonical form. -/

namespace Sys2Proof.Machine

/-- What an unlisted address reads as: zero. For program memory it is the spec's (00_scope.md rule R8, an unspecified
byte is 00); for data memory, which nothing initialises (R404), it is DESIGN CHOICE (log 2). -/
def Memory.blank (w : Nat) : BitVec w := 0#w

/-- The word at address `a`. -/
def Memory.read {w : Nat} (m : Memory w) (a : Nat) : BitVec w :=
  match m with
  | [] => Memory.blank w
  | (b, v) :: rest => if b = a then v else Memory.read rest a

/-- `m` with no entry for address `a`. -/
def Memory.erase {w : Nat} (m : Memory w) (a : Nat) : Memory w :=
  m.filter (fun c => c.1 != a)

/-- `m` with the entry `(a, v)` before the first entry of a higher address. -/
def Memory.insert {w : Nat} (m : Memory w) (a : Nat) (v : BitVec w) : Memory w :=
  match m with
  | [] => [(a, v)]
  | (b, u) :: rest => if a < b then (a, v) :: (b, u) :: rest else (b, u) :: Memory.insert rest a v

/-- `m` with the word `v` at address `a`; the blank word is held by no entry. -/
def Memory.write {w : Nat} (m : Memory w) (a : Nat) (v : BitVec w) : Memory w :=
  if v = Memory.blank w then m.erase a else (m.erase a).insert a v

/-- The canonical form from address `low` on: addresses rise strictly, stay below `size`, no word is blank. -/
def Memory.wfFrom {w : Nat} (low size : Nat) (m : Memory w) : Bool :=
  match m with
  | [] => true
  | (a, v) :: rest =>
    decide (low ≤ a) && decide (a < size) && decide (v ≠ Memory.blank w) && Memory.wfFrom (a + 1) size rest

/-- The canonical form of a memory of `size` words. -/
def Memory.wf {w : Nat} (size : Nat) (m : Memory w) : Bool := m.wfFrom 0 size

end Sys2Proof.Machine
end

