-- ==== Sys2Proof/Machine/Ops.lean ====
section
/-! DEFINITION. The named operations over memory and registers, the stack, and taking and leaving an interrupt: the
machine's one kind of exception (60_exceptions.md rules R300-R312). -/

namespace Sys2Proof.Machine

/-! Memory (20_memory.md) -/

/-- `RAM_MASK` (R6): bit 7 of the RAM address is not decoded on TMP4720P. -/
def ramMask (part : Part) : RamAddr :=
  match part with
  | .tmp4740p => 0xFF#8
  | .tmp4720p => 0x7F#8

/-- `ROM_MASK` (R6): bit 11 of the ROM address is not decoded on TMP4720P. -/
def romMask (part : Part) : RomAddr :=
  match part with
  | .tmp4740p => 0xFFF#12
  | .tmp4720p => 0x7FF#12

/-- The physical RAM word that answers to address `a` (R76). -/
def ramIndex (s : State) (a : RamAddr) : Nat := (a &&& ramMask s.part).toNat

/-- The physical ROM byte that answers to address `a` (R72). -/
def romIndex (s : State) (a : RomAddr) : Nat := (a &&& romMask s.part).toNat

/-- `MemRead(a)` (R76). -/
def memRead (s : State) (a : RamAddr) : Nibble := s.ram.read (ramIndex s a)

/-- `MemWrite(a, v)` (R77). -/
def memWrite (s : State) (a : RamAddr) (v : Nibble) : State := s.setRam (s.ram.write (ramIndex s a) v)

/-- `RomRead(a)` (R72). -/
def romRead (s : State) (a : RomAddr) : Byte := s.rom.read (romIndex s a)

/-- The 12-bit quantity in three RAM words, least significant nibble at the lowest address (R88 (f), log 13, 14). -/
def readTriple (s : State) (base : RamAddr) : RomAddr :=
  memRead s (base + 2#8) ++ memRead s (base + 1#8) ++ memRead s base

/-- Writes a 12-bit quantity to three RAM words in that order (R88 (f)). -/
def writeTriple (s : State) (base : RamAddr) (v : RomAddr) : State :=
  memWrite
    (memWrite (memWrite s base (v.extractLsb' 0 4)) (base + 1#8) (v.extractLsb' 4 4))
    (base + 2#8) (v.extractLsb' 8 4)

/-- The address of SPW (R36). -/
def spwAddr : RamAddr := 0xFF#8

/-- The lowest word of DC (R40, log 14). -/
def dcAddr : RamAddr := 0xFC#8

/-- The stack pointer word (R36). -/
def spw (s : State) : Nibble := memRead s spwAddr

/-- The data counter (R40). -/
def dataCounter (s : State) : RomAddr := readTriple s dcAddr

/-! Registers -/

/-- `PC <- PCn`, the address after an instruction of `len` bytes; the counter wraps (R23, R24, log 23). -/
def advance (len : RomAddr) (s : State) : State := s.setPc (s.pc + len)

/-- The next free value, and the state in which it has been used (log 9). -/
def takeFree (s : State) : Nibble × State :=
  (Config.freeNibble s.freeCount, s.setFreeCount (s.freeCount + 1))

/-! The stack (46_branch_other.md rule R294) -/

/-- `SP(n) = C0 + 4 n`, the bit pattern `1 1 n3 n2 n1 n0 0 0` (R37, log 13). -/
def stackAddr (level : Nibble) : RamAddr := 0b11#2 ++ level ++ 0b00#2

/-- The level that overlays DC and SPW and may not be used (R39, log 21). -/
def forbiddenLevel : Nibble := 0xF#4

/-- `StackSave` at an allowed level: PC in words 0-2, `w3` in word 3, then SPW <- SPW - 1 (R294, R38, log 13). -/
def stackSave (pc12 : RomAddr) (w3 : Nibble) (s : State) : State :=
  let level := spw s
  memWrite (memWrite (writeTriple s (stackAddr level) pc12) (stackAddr level + 3#8) w3) spwAddr (level - 1#4)

/-- The level `StackRestore` reads: SPW incremented first (R294). -/
def restoreLevel (s : State) : Nibble := spw s + 1#4

/-- The state `StackRestore` leaves: SPW <- SPW + 1 (R294). -/
def stackRestore (s : State) : State := memWrite s spwAddr (restoreLevel s)

/-- The return address `StackRestore` yields, read after SPW was written (R294). -/
def restoredPc (s : State) : RomAddr := readTriple (stackRestore s) (stackAddr (restoreLevel s))

/-- The fourth word `StackRestore` yields (R294). -/
def restoredWord (s : State) : Nibble := memRead (stackRestore s) (stackAddr (restoreLevel s) + 3#8)

/-! Interrupts (60_exceptions.md) -/

/-- The six interrupt factors, in order of priority (R301). -/
inductive Factor where
  | int1
  | isio
  | iovf1
  | iovf2
  | itmr
  | int2
  deriving DecidableEq, Repr

/-- The index j of the factor's latch INTLj (R45, R301). -/
def factorLatch (f : Factor) : Nat :=
  match f with
  | .int1 => 5
  | .isio => 4
  | .iovf1 => 3
  | .iovf2 => 2
  | .itmr => 1
  | .int2 => 0

/-- The factor's vector address (R301, R311). -/
def factorVector (f : Factor) : RomAddr :=
  match f with
  | .int1 => 0x002#12
  | .isio => 0x004#12
  | .iovf1 => 0x006#12
  | .iovf2 => 0x008#12
  | .itmr => 0x00A#12
  | .int2 => 0x00C#12

/-- The factor's enable condition (R303). -/
def factorEnabled (s : State) (f : Factor) : Bool :=
  match f with
  | .int1 => s.eif
  | .isio => s.eif && s.eir.getLsbD 3
  | .iovf1 => s.eif && s.eir.getLsbD 2
  | .iovf2 => s.eif && s.eir.getLsbD 1
  | .itmr => s.eif && s.eir.getLsbD 1
  | .int2 => s.eif && s.eir.getLsbD 0

/-- The six factors, highest priority first (R302). -/
def factorsByPriority : List Factor := [.int1, .isio, .iovf1, .iovf2, .itmr, .int2]

/-- The factor a decision point accepts: the latched and enabled one of highest priority (R302, R309). -/
def pendingFactor (s : State) : Option Factor :=
  factorsByPriority.find? (fun f => s.intl.getLsbD (factorLatch f) && factorEnabled s f)

/-- An interrupt event sets the factor's latch; a latch already set stays set (R304). -/
def setLatch (f : Factor) (s : State) : State := s.setIntl (s.intl ||| (1#6 <<< factorLatch f))

/-- Clears the factor's latch (R305, R310 step 5). -/
def clearLatch (f : Factor) (s : State) : State := s.setIntl (s.intl &&& ~~~(1#6 <<< factorLatch f))

/-- TAKING AN INTERRUPT (R310) at an allowed stack level: (1) PC and the four flags are saved, (2) PC <- the vector,
(3) SF <- 1, (4) EIF <- 0, (5) the factor's latch is cleared. -/
def acceptInterrupt (f : Factor) (s : State) : State :=
  clearLatch f ((((stackSave s.pc (flagWord s) s).setPc (factorVector f)).setSf true).setEif false)

/-- RETURNING FROM AN INTERRUPT (R292, R312): PC and the four flags from the stack, then EIF <- 1. -/
def returnFromInterrupt (s : State) : State :=
  (restoreFlags (restoredWord s) ((stackRestore s).setPc (restoredPc s))).setEif true

end Sys2Proof.Machine
end

