-- ==== Sys2Proof/Machine/Operands.lean ====
section
/-! DEFINITION. Every operand form: the effective addresses of 20_memory.md rule R78, the bit operands of 44_bit.md rules
R230 and R255, and the reads through them. -/

namespace Sys2Proof.Machine

/-- `@HL`: the address `HR . LR` (R27, R78 (a)). -/
def addrHL (s : State) : RamAddr := s.hr ++ s.lr

/-- `y`: the page-0 address `0x0 . y` (R42, R78 (d)). -/
def addrY (y : Nibble) : RamAddr := 0x0#4 ++ y

/-- The pair forms' `x' = x[7:2] . 00` (R78 (e), R153). -/
def addrPair (x : RamAddr) : RamAddr := x &&& 0xFC#8

/-- The word at `@HL`. -/
def readHL (s : State) : Nibble := memRead s (addrHL s)

/-- The state with `v` stored at `@HL`. -/
def writeHL (v : Nibble) (s : State) : State := memWrite s (addrHL s) v

/-- `@HL+`: L is incremented and sets ZF and SF (R78 (b), R160, Note 3). -/
def incrementL (s : State) : State :=
  let r := add4 s.lr 1#4 false
  sumFlags r (s.setLr r.1)

/-- `@HL-`: L is decremented and sets ZF and SF (R78 (b), R161, Note 3). -/
def decrementL (s : State) : State :=
  let r := sub4 s.lr 1#4 true
  differenceFlags r (s.setLr r.1)

/-- Bit `b` of a word (R230). -/
def bitOf (v : Nibble) (b : BitVec 2) : Bool := v.getLsbD b.toNat

/-- `v OR (1 << b)` (R243). -/
def withBitSet (v : Nibble) (b : BitVec 2) : Nibble := v ||| (1#4 <<< b.toNat)

/-- `v AND not4(1 << b)` (R248). -/
def withBitClear (v : Nibble) (b : BitVec 2) : Nibble := v &&& not4 (1#4 <<< b.toNat)

/-- The port an `@L` instruction addresses: `LR[3:2] + 4` (R255). -/
def portOfL (s : State) : Nibble := 4#4 + (s.lr >>> 2)

/-- The bit an `@L` instruction addresses: `LR[1:0]` (R255). -/
def bitOfL (s : State) : BitVec 2 := s.lr.extractLsb' 0 2

/-- The PLA table address of `OUTB @HL`: `1111 111 CF m3 m2 m1 m0` (R271). -/
def addrPla (s : State) : RomAddr := 0b1111111#7 ++ BitVec.ofBool s.cf ++ readHL s

end Sys2Proof.Machine
end

