-- ==== Sys2Proof/Machine/Serial.lean ====
section
/-! DEFINITION. The serial port (61_peripherals.md rules R371-R383): the command, the buffer, the shift operations, and
what one instruction cycle does to it. -/

namespace Sys2Proof.Machine

/-- The operation modes of Table 1.11.1 (R371). -/
inductive SerialMode where
  | unusable
  | transmit
  | receiveTrailing
  | receiveLeading
  deriving DecidableEq, Repr

/-- RM.LM of a command (R371). -/
def serialMode (cmd1F : Nibble) : SerialMode :=
  match cmd1F.getLsbD 2, cmd1F.getLsbD 1 with
  | false, false => .unusable
  | false, true => .transmit
  | true, false => .receiveTrailing
  | true, true => .receiveLeading

/-- ESIO, bit 3 of a command (R371). -/
def esio (cmd1F : Nibble) : Bool := cmd1F.getLsbD 3

/-- ECKM = 0 of a command: the internal clock (R371). -/
def internalClock (cmd1F : Nibble) : Bool := !cmd1F.getLsbD 0

/-- The port is in transmit mode (R371). -/
def inTransmit (s : State) : Bool := serialMode s.cmds.cmd1F == .transmit

/-- The port is enabled or a transfer is still in progress (R348, log 25). -/
def serialActive (s : State) : Bool := esio s.cmds.cmd1F || s.sio.siof

/-- Writes the request signal; a 0-to-1 transition sets INTL4 (R380). -/
def setRequest (v : Bool) (s : State) : State :=
  let t := s.setSio { s.sio with req := v }
  if v && !s.sio.req then setLatch .isio t else t

/-- SR, SB, SBFULL, SRFULL, NB, REQ and SOUT take free values (93_implementation_defined.md U8, log 12). -/
def scrambleSerial (s : State) : State :=
  let n := s.freeCount
  let bits := Config.freeNibble (n + 2)
  let t := s.setSio
    { s.sio with
      sr := Config.freeNibble n
      sb := Config.freeNibble (n + 1)
      sbFull := bits.getLsbD 0
      srFull := bits.getLsbD 1
      sOut := bits.getLsbD 2
      nb := (Config.freeNibble (n + 3)).extractLsb' 0 2
      unspec := true }
  setRequest (bits.getLsbD 3) (t.setFreeCount (n + 4))

/-- A write of CMD1F changes RM, LM or ECKM while a transfer or an unread word is there (R382, log 12). -/
def modeChangeInFlight (v : Nibble) (s : State) : Bool :=
  v.extractLsb' 0 3 != s.cmds.cmd1F.extractLsb' 0 3 && (s.sio.siof || s.sio.sbFull || s.sio.srFull)

/-- The effect on the transfer of writing `v` to CMD1F, before any loss of R382: setting ESIO starts a transfer (R376,
R379); clearing it between words of a transmission ends the transfer at once (R377); in mode 00 the port is idle
(R371, U7, log 32). -/
def commandTransfer (v : Nibble) (s : State) : Serial :=
  if esio v && !esio s.cmds.cmd1F then { s.sio with siof := true, nb := 0#2, waiting := false, unspec := false }
  else if serialMode v == .unusable then { s.sio with siof := false, sef := false, waiting := false }
  else if !esio v && inTransmit s && s.sio.nb == 0#2 then { s.sio with siof := false, waiting := false }
  else s.sio

/-- `PortOut(0x1F, v)` (R86, R371, R382); the write that would enable mode 00 is refused (U7, log 22). -/
def writeSerialCommand (v : Nibble) (s : State) : Except Refusal State :=
  if esio v && serialMode v == .unusable then .error .serialModeUnusable
  else
    let t := (s.setSio (commandTransfer v s)).setCmds { s.cmds with cmd1F := v }
    .ok (if modeChangeInFlight v s then scrambleSerial t else t)

/-- `PortOut(0x0F, v)` (R375): in transmit mode the buffer is filled, the request reset and a wait released; in any other
mode nothing changes (log 33). -/
def writeSerialBuffer (v : Nibble) (s : State) : State :=
  if inTransmit s then s.setSio { s.sio with sb := v, sbFull := true, req := false, waiting := false }
  else s

/-- The effect of `PortIn(0xF)`, the same in every mode (R378, log 33): the request is reset and the buffer is freed; a
complete word held in the shift register then moves to the buffer, raises a new request and releases the wait. -/
def readSerialBuffer (s : State) : State :=
  let t := setRequest false (s.setSio { s.sio with sbFull := false })
  if s.sio.srFull then
    setRequest true
      (t.setSio { t.sio with sb := t.sio.sr, sbFull := true, srFull := false, waiting := false })
  else t

/-- The shift of one bit out of SR to SO, least significant bit first (R376). -/
def shiftOut (s : State) : State :=
  let (free, t) := takeFree s
  let n := t.sio.nb + 1#2
  t.setSio
    { t.sio with
      sOut := t.sio.sr.getLsbD 0
      sr := free.extractLsb' 0 1 ++ t.sio.sr.extractLsb' 1 3
      nb := n
      sef := t.sio.sef && n != 0#2 }

/-- A leading edge in transmit mode while SIOF = 1 (R376). At a word boundary: the end (R377), or the wait, or in the
external clock mode the underrun (U8), or the next word is taken from the buffer and a request raised. -/
def transmitEdge (s : State) : State :=
  if s.sio.nb != 0#2 then shiftOut s
  else if !esio s.cmds.cmd1F then s.setSio { s.sio with siof := false }
  else if !s.sio.sbFull then
    if internalClock s.cmds.cmd1F then s.setSio { s.sio with waiting := true }
    else s.setSio { s.sio with unspec := true }
  else
    shiftOut (setRequest true (s.setSio { s.sio with sr := s.sio.sb, sbFull := false, sef := true }))

/-- The completion of a received word (R379): to the buffer with a request, or held in SR if the buffer is full. -/
def deliverWord (s : State) : State :=
  if s.sio.sbFull then s.setSio { s.sio with srFull := true }
  else setRequest true (s.setSio { s.sio with sb := s.sio.sr, sbFull := true })

/-- The shift of one bit from SI into SR, towards the least significant bit (R379). -/
def shiftIn (si : Bool) (s : State) : State :=
  let n := s.sio.nb + 1#2
  let t := s.setSio
    { s.sio with
      sr := BitVec.ofBool si ++ s.sio.sr.extractLsb' 1 3
      nb := n
      sef := n != 0#2 }
  if n == 0#2 then deliverWord t else t

/-- The shifting edge in a receive mode while SIOF = 1 (R379). -/
def receiveEdge (si : Bool) (s : State) : State :=
  if s.sio.nb == 0#2 && !esio s.cmds.cmd1F then s.setSio { s.sio with siof := false }
  else if s.sio.srFull then
    if internalClock s.cmds.cmd1F then s.setSio { s.sio with waiting := true }
    else s.setSio { s.sio with unspec := true }
  else shiftIn si s

/-- The internal shift clock is running: a transfer in progress and not waiting (R374). -/
def clockRunning (s : State) : Bool := s.sio.siof && !s.sio.waiting

/-- `lead`: the leading (falling) edge of the shift clock in this cycle (R374, log 31). -/
def leadEdge (next : BitVec 19) (now : EdgePins) (s : State) : Bool :=
  if internalClock s.cmds.cmd1F then clockRunning s && s.divider.getLsbD 3 && !next.getLsbD 3
  else s.prev.r92 && !now.r92

/-- `trail`: the trailing (rising) edge of the shift clock in this cycle (R374, log 31). -/
def trailEdge (next : BitVec 19) (now : EdgePins) (s : State) : Bool :=
  if internalClock s.cmds.cmd1F then clockRunning s && !s.divider.getLsbD 3 && next.getLsbD 3
  else !s.prev.r92 && now.r92

/-- The shift operation of this cycle, if its edge came while SIOF = 1 (R376, R379). -/
def serialShift (next : BitVec 19) (now : EdgePins) (si : Bool) (s : State) : State :=
  match serialMode s.cmds.cmd1F with
  | .unusable => s
  | .transmit => if s.sio.siof && leadEdge next now s then transmitEdge s else s
  | .receiveTrailing => if s.sio.siof && trailEdge next now s then receiveEdge si s else s
  | .receiveLeading => if s.sio.siof && leadEdge next now s then receiveEdge si s else s

/-- `SioTick` (R340 step 5, R374-R380): the shift of this cycle, the free values of U8, and the level of SCK. -/
def serialTick (next : BitVec 19) (now : EdgePins) (si : Bool) (s : State) : State :=
  let t := serialShift next now si s
  let u := if t.sio.unspec then scrambleSerial t else t
  u.setSio
    { u.sio with
      sckOut := if internalClock u.cmds.cmd1F && clockRunning u then next.getLsbD 3 else true }

end Sys2Proof.Machine
end

