-- ==== Sys2Proof/Machine/Ports.lean ====
section
/-! DEFINITION. Pins and ports (20_memory.md rules R79-R87, 61_peripherals.md rules R344-R348). -/

namespace Sys2Proof.Machine

/-! Pin levels (R84): a latch bit at 0 pulls its pin low, a latch bit at 1 releases it (log 25). -/

/-- The level at the three pins of R9, SCK (bit 2), SO (bit 1), SI (bit 0): the serial port's outputs are further terms
of the wired AND while the port drives them (R84, R373, log 25). -/
def pinsR9 (s : State) : BitVec 3 :=
  let so := if serialActive s && inTransmit s then s.sio.sOut else true
  let sck := if serialActive s && internalClock s.cmds.cmd1F then s.sio.sckOut else true
  s.ports.r9 &&& s.env.r9 &&& (BitVec.ofBool sck ++ BitVec.ofBool so ++ 1#1)

/-- The level at the pins of R8: T1 (bit 3), INT1 (bit 2), T2 (bit 1), INT2 (bit 0) (R84, R347). -/
def pinsR8 (s : State) : Nibble := s.ports.r8 &&& s.env.r8

/-- The edge-sensitive pins' levels (R345). -/
def edgePins (s : State) : EdgePins :=
  { r82 := (pinsR8 s).getLsbD 2
    r80 := (pinsR8 s).getLsbD 0
    r83 := (pinsR8 s).getLsbD 3
    r81 := (pinsR8 s).getLsbD 1
    r92 := (pinsR9 s).getLsbD 2 }

/-! Input -/

/-- The serial status input IP0E: SIOF . SEF . u1 . u0, the two low bits free (R85, R372, U4, log 11). -/
def statusInput (s : State) : Nibble :=
  BitVec.ofBool s.sio.siof ++ BitVec.ofBool s.sio.sef ++ (takeFree s).1.extractLsb' 0 2

/-- `PortIn(p)` (R85): the value read, and the state after the read (R91). -/
def portIn (p : Nibble) (s : State) : Except Refusal (Nibble × State) :=
  match p.toNat with
  | 0x0 => .ok (s.env.k0, s)
  | 0x1 => .ok (s.ports.p1, s)
  | 0x2 => .ok (s.ports.p2, s)
  | 0x4 => .ok (s.ports.r4 &&& s.env.r4, s)
  | 0x5 => .ok (s.ports.r5 &&& s.env.r5, s)
  | 0x6 => .ok (s.ports.r6 &&& s.env.r6, s)
  | 0x7 => .ok (s.ports.r7 &&& s.env.r7, s)
  | 0x8 => .ok (pinsR8 s, s)
  | 0x9 => .ok (1#1 ++ pinsR9 s, s)
  | 0xE => .ok (statusInput s, (takeFree s).2)
  | 0xF => .ok (s.sio.sb, readSerialBuffer s)
  | _ => .error (.portNotAllowed (p.setWidth 5))

/-- What `TEST %p,b` and `TESTP %p,b` read: `PortIn(p)`, but not the serial buffer (R80, R235, R241). -/
def portTest (p : Nibble) (s : State) : Except Refusal (Nibble × State) :=
  if p = 0xF#4 then .error (.portNotAllowed (p.setWidth 5)) else portIn p s

/-! Output -/

/-- `PortOut(p, v)` (R86) for a 5-bit port address; every address without an output side is refused (R82, R83). -/
def portOut (p : PortAddr) (v : Nibble) (s : State) : Except Refusal State :=
  match p.toNat with
  | 0x01 => .ok (s.setPorts { s.ports with p1 := v })
  | 0x02 => .ok (s.setPorts { s.ports with p2 := v })
  | 0x04 => .ok (s.setPorts { s.ports with r4 := v })
  | 0x05 => .ok (s.setPorts { s.ports with r5 := v })
  | 0x06 => .ok (s.setPorts { s.ports with r6 := v })
  | 0x07 => .ok (s.setPorts { s.ports with r7 := v })
  | 0x08 => .ok (s.setPorts { s.ports with r8 := v })
  | 0x09 => .ok (s.setPorts { s.ports with r9 := v.extractLsb' 0 3 })
  | 0x0F => .ok (writeSerialBuffer v s)
  | 0x11 => .error .op11ByOut
  | 0x19 => .ok (s.setCmds { s.cmds with cmd19 := v })
  | 0x1C => .ok (s.setCmds { s.cmds with cmd1C := v })
  | 0x1D => .ok (s.setCmds { s.cmds with cmd1D := v })
  | 0x1F => writeSerialCommand v s
  | _ => .error (.portNotAllowed p)

/-- `PortLatch(p)` (R87) where a `SET` or `CLR` may name the port (R80), none elsewhere. -/
def portLatch (p : Nibble) (s : State) : Option Nibble :=
  match p.toNat with
  | 0x1 => some s.ports.p1
  | 0x2 => some s.ports.p2
  | 0x4 => some s.ports.r4
  | 0x5 => some s.ports.r5
  | 0x6 => some s.ports.r6
  | 0x7 => some s.ports.r7
  | 0x8 => some s.ports.r8
  | 0x9 => some (1#1 ++ s.ports.r9)
  | _ => none

/-- The read-modify-write of an output latch (R87): `change` is applied to the latch, not to the pins. -/
def updateLatch (p : Nibble) (change : Nibble → Nibble) (s : State) : Except Refusal State :=
  match portLatch p s with
  | some v => portOut (p.setWidth 5) (change v) s
  | none => .error (.portNotAllowed (p.setWidth 5))

end Sys2Proof.Machine
end

