-- ==== Sys2Proof/Machine/Peripherals.lean ====
section
/-! DEFINITION. What one instruction cycle does to the peripherals (61_peripherals.md rule R340), the count operation of
the timer/counters (R366), and the initialization operation (70_reset_and_hazards.md rules R400-R405, R414). -/

namespace Sys2Proof.Machine

/-! The frequency divider and its timer interrupt -/

/-- `rise(k)` (R340 step 1): bit `k` of the cycle counter goes from 0 to 1. -/
def rises (k : Nat) (c next : BitVec 19) : Bool := !c.getLsbD k && next.getLsbD k

/-- The divider bit CMD19 selects: FD6, FD7, FD8 or FD9 (R352). -/
def timerStage (cmd19 : Nibble) : Nat := 6 + (cmd19.extractLsb' 0 2).toNat

/-- ITMR (R340 step 2, R352). -/
def tickDividerInterrupt (next : BitVec 19) (s : State) : State :=
  if s.cmds.cmd19.getLsbD 2 && rises (timerStage s.cmds.cmd19) s.divider next then setLatch .itmr s else s

/-! The interrupt pins -/

/-- INT1 and INT2: falling edges of R82 and R80 (R340 step 3, R345). -/
def tickPinInterrupts (now : EdgePins) (s : State) : State :=
  let t := if s.prev.r82 && !now.r82 then setLatch .int1 s else s
  if s.prev.r80 && !now.r80 then setLatch .int2 t else t

/-! The timer/counters -/

/-- The modes of a timer/counter (R361). -/
inductive TimerMode where
  | disable
  | eventCounter
  | timer
  | pulseWidth
  deriving DecidableEq, Repr

/-- `mode(v)` of a command (R361, log 30). -/
def timerMode (cmd : Nibble) : TimerMode :=
  match (cmd.extractLsb' 2 2).toNat with
  | 0 => .disable
  | 1 => .eventCounter
  | 2 => .timer
  | _ => .pulseWidth

/-- The divider bit `F(ch)` of the internal pulse: FD6, FD10, FD14 or FD18 (R361, R362, log 30). -/
def pulseStage (cmd : Nibble) : Nat := 6 + 4 * (cmd.extractLsb' 0 2).toNat

/-- `CountPulse` (R362): the count pulse of a channel rises; `before` and `now` are the levels of its pin. -/
def countPulse (cmd : Nibble) (c next : BitVec 19) (before now : Bool) : Bool :=
  match timerMode cmd with
  | .disable => false
  | .timer => rises (pulseStage cmd) c next
  | .eventCounter => !before && now
  | .pulseWidth => !(c.getLsbD (pulseStage cmd) && before) && (next.getLsbD (pulseStage cmd) && now)

/-- A rising count pulse sets the channel's count latch; one that is already set stays set (R340 step 4, R365, log 28). -/
def tickCountPulses (next : BitVec 19) (now : EdgePins) (s : State) : State :=
  let p1 := countPulse s.cmds.cmd1C s.divider next s.prev.r83 now.r83
  let p2 := countPulse s.cmds.cmd1D s.divider next s.prev.r81 now.r81
  (s.setCntl1 (s.cntl1 || p1)).setCntl2 (s.cntl2 || p2)

/-- The two timer/counter channels (R360). -/
inductive Channel where
  | one
  | two
  deriving DecidableEq, Repr

/-- The lowest RAM word of the channel's counter (R41, log 14). -/
def counterAddr (ch : Channel) : RamAddr :=
  match ch with
  | .one => 0xF4#8
  | .two => 0xF8#8

/-- The channel's overflow interrupt (R367). -/
def overflowFactor (ch : Channel) : Factor :=
  match ch with
  | .one => .iovf1
  | .two => .iovf2

/-- Clears the channel's count latch (R365). -/
def clearCount (ch : Channel) (s : State) : State :=
  match ch with
  | .one => s.setCntl1 false
  | .two => s.setCntl2 false

/-- `CountOperation(ch)` (R366, R367): the 12-bit RAM counter goes up by one; FFF to 000 sets the overflow latch. -/
def countOperation (ch : Channel) (s : State) : State :=
  let t := readTriple s (counterAddr ch)
  let u := clearCount ch (writeTriple s (counterAddr ch) (t + 1#12))
  if t = 0xFFF#12 then setLatch (overflowFactor ch) u else u

/-! One instruction cycle -/

/-- `Tick(env)` (R340): divider interrupt, interrupt pins, count pulses, serial port, then the counter and the edge
memories advance. -/
def tick (s : State) : State :=
  let next := s.divider + 1#19
  let now := edgePins s
  let si := (pinsR9 s).getLsbD 0
  let t := serialTick next now si (tickCountPulses next now (tickPinInterrupts now (tickDividerInterrupt next s)))
  (t.setDivider next).setPrev now

/-- `n` instruction cycles. -/
def ticks (n : Nat) (s : State) : State :=
  match n with
  | 0 => s
  | k + 1 => ticks k (tick s)

/-- Step 3 of R315: while a count request is held, one count operation, channel 1 first, and its cycle. At most four
operations can fall in one step (log 28), so `fuel` 4 ends no loop early. -/
def countRequests (fuel : Nat) (s : State) : State :=
  match fuel with
  | 0 => s
  | k + 1 =>
    if s.cntl1 then countRequests k (tick (countOperation .one s))
    else if s.cntl2 then countRequests k (tick (countOperation .two s))
    else s

/-- The outside levels of the next step: the head of the queue, or the same levels with RESET high (log 6). -/
def nextEnv (s : State) : State :=
  match s.inputs with
  | [] => s.setEnv { s.env with event := .run }
  | e :: rest => (s.setEnv e).setInputs rest

/-! The initialization operation -/

/-- The latches of R4, R5 and R6 at reset, by circuit code (R405). -/
def resetLevel (code : IoCode) : Nibble :=
  match code with
  | .aa => 0xF#4
  | .ae => 0xF#4
  | .af => 0xF#4
  | .ah => 0x0#4
  | .ai => 0x0#4

/-- The port latches at reset (R402, R405). -/
def resetPorts (code : IoCode) : Ports :=
  { p1 := 0xF#4, p2 := 0xF#4, r4 := resetLevel code, r5 := resetLevel code, r6 := resetLevel code, r7 := 0xF#4,
    r8 := 0xF#4, r9 := 0b111#3 }

/-- The serial port idle (R380), SR and SB holding `sr` and `sb`. -/
def idleSerial (sr sb : Nibble) : Serial :=
  { sr := sr, sb := sb, siof := false, sef := false, req := false, nb := 0#2, sbFull := false, srFull := false,
    sOut := true, sckOut := true, waiting := false, unspec := false }

/-- The state of R402 on a chip `part`, `ioCode`, `rom`, with the uninitialised state (R404) given by the arguments: the
RAM, AC, HR, LR, the flags CF, ZF, GF as bits 3, 2, 0 of `flags`, SR, SB, the prescaler bit. The edge memories take the
pin levels at the release (R345). -/
def initialized (s : State) (ram : Memory 4) (ac hr lr flags sr sb : Nibble) (prescaler : Bool) : State :=
  let t : State :=
    { s with
      pc := 0x000#12
      ac := ac
      hr := hr
      lr := lr
      cf := flags.getLsbD 3
      zf := flags.getLsbD 2
      sf := true
      gf := flags.getLsbD 0
      ram := ram
      eif := false
      eir := 0x0#4
      intl := 0b000000#6
      ports := resetPorts s.ioCode
      cmds := { cmd19 := 0x0#4, cmd1C := 0x0#4, cmd1D := 0x0#4, cmd1F := 0x0#4 }
      divider := 0#18 ++ BitVec.ofBool prescaler
      sio := idleSerial sr sb
      cntl1 := false
      cntl2 := false }
  t.setPrev (edgePins t)

/-- `n` RAM words of free values, at the addresses below `n`, from index `i` on (R404, log 7). -/
def freeRam (n i : Nat) : Memory 4 :=
  match n with
  | 0 => []
  | k + 1 => (freeRam k i).write k (Config.freeNibble (i + k))

/-- The number of physical RAM words (R75). -/
def ramSize (part : Part) : Nat := (ramMask part).toNat + 1

/-- The number of physical ROM bytes (R71). -/
def romSize (part : Part) : Nat := (romMask part).toNat + 1

/-- The initialization operation inside a run (R400-R404): what it does not initialise takes free values (U1, log 7), but
that RAM keeps its words; `abandonStep` first frees those that were being written. -/
def resetMachine (s : State) : State :=
  let n := s.freeCount
  let f := fun k => Config.freeNibble (n + k)
  (initialized s s.ram (f 0) (f 1) (f 2) (f 3) (f 4) (f 5) ((f 6).getLsbD 0)).setFreeCount (n + 7)

/-- The same after a power-up without back-up supply: every RAM word is free too (R404, R414, log 7). -/
def powerUpMachine (s : State) : State :=
  let t := resetMachine s
  (t.setRam (freeRam (ramSize t.part) t.freeCount)).setFreeCount (t.freeCount + ramSize t.part)

end Sys2Proof.Machine
end

