-- ==== Sys2Proof/Machine/Cycle.lean ====
section
/-! DEFINITION. What surrounds the effect of an instruction in one step of the machine: the fetch (30_encoding.md rule
R111), the instruction's cycles (70_reset_and_hazards.md rule R421), the count operations and the interrupt decision
(60_exceptions.md rules R309, R315, R316). -/

namespace Sys2Proof.Machine

/-- The instruction cycles an instruction takes (R421, the `cycles` column of the opcode table). -/
def instrCycles (i : Instr) : Nat :=
  match i with
  | .ldAHL => 1
  | .ldAX _ => 2
  | .ldAK _ => 1
  | .ldHLX _ => 2
  | .ldHK _ => 1
  | .ldLK _ => 1
  | .ldlADC => 2
  | .ldhADCInc => 2
  | .stAHL => 1
  | .stAHLInc => 1
  | .stAHLDec => 1
  | .stAX _ => 2
  | .stKHLInc _ => 1
  | .stKY _ _ => 2
  | .movHA => 1
  | .movLA => 1
  | .xchAH => 2
  | .xchAL => 2
  | .xchAEIR => 1
  | .xchAHL => 1
  | .xchAX _ => 2
  | .xchHLX _ => 2
  | .cmprAHL => 1
  | .cmprAX _ => 2
  | .cmprAK _ => 1
  | .cmprHK _ => 2
  | .cmprLK _ => 2
  | .cmprYK _ _ => 2
  | .incA => 1
  | .incL => 1
  | .incHL => 1
  | .decA => 1
  | .decL => 1
  | .decHL => 1
  | .addcAHL => 1
  | .addAHL => 1
  | .addAK _ => 2
  | .addHK _ => 2
  | .addLK _ => 2
  | .addHLK _ => 2
  | .addYK _ _ => 2
  | .subrcAHL => 1
  | .subrAK _ => 2
  | .subrHLK _ => 2
  | .rolcA => 1
  | .rorcA => 1
  | .andAHL => 1
  | .andAK _ => 2
  | .andHLK _ => 2
  | .orAHL => 1
  | .orAK _ => 2
  | .orHLK _ => 2
  | .xorAHL => 1
  | .testCF => 1
  | .testAB _ => 1
  | .testHLB _ => 1
  | .testYB _ _ => 2
  | .testPB _ _ => 2
  | .testL => 2
  | .testpCF => 1
  | .testpZF => 1
  | .testpGF => 1
  | .testpYB _ _ => 2
  | .testpPB _ _ => 2
  | .setGF => 1
  | .setHLB _ => 1
  | .setYB _ _ => 2
  | .setPB _ _ => 2
  | .setL => 2
  | .clrGF => 1
  | .clrHLB _ => 1
  | .clrYB _ _ => 2
  | .clrPB _ _ => 2
  | .clrL => 2
  | .clrIL _ => 2
  | .eiclrIL _ => 2
  | .diclrIL _ => 2
  | .inPA _ => 2
  | .inPHL _ => 2
  | .outAP _ => 2
  | .outHLP _ => 2
  | .outKP _ _ => 2
  | .outbHL => 2
  | .bs _ => 2
  | .bss _ => 1
  | .call _ => 2
  | .calls _ => 2
  | .ret => 2
  | .reti => 2
  | .nop => 1

/-- The two bytes at PC and at the next address, which wraps (R24, R111). -/
def fetchBytes (s : State) : List Byte := [romRead s s.pc, romRead s (s.pc + 1#12)]

/-- The instruction at PC (R111). -/
def fetch (s : State) : Except DecodeError Instr :=
  match decode (fetchBytes s) with
  | .ok (i, _) => .ok i
  | .error e => .error e

/-- Where the bytes at PC are a reserved encoding (R140, U2, log 19). -/
def fetchRefusal (s : State) : Refusal := .reservedEncoding (romRead s s.pc) (romRead s (s.pc + 1#12))

/-- The count operations one step can need (log 28). -/
def countBound : Nat := 4

/-- Steps 2 and 3 of R315 after an instruction of `n` cycles: its ticks, then the count operations. -/
def afterInstruction (n : Nat) (s : State) : State := countRequests countBound (ticks n s)

/-- Step 4 of R315, the decision point (R309): the pending enabled factor of highest priority is accepted, in two
cycles (R316); at stack level F the acceptance is refused (R310, U6). -/
def decisionPoint (s : State) : Host.Outcome State Fault Refusal :=
  match pendingFactor s with
  | none => .next s
  | some f =>
    if spw s = forbiddenLevel then .refused .stackLevelF
    else .next (ticks 2 (acceptInterrupt f s))

/-- The rest of a step after the instruction of `n` cycles has had its effect (R315), and the next outside levels. -/
def completeStep (n : Nat) (s : State) : Host.Outcome State Fault Refusal :=
  match decisionPoint (afterInstruction n s) with
  | .next t => .next (nextEnv t)
  | .fault f => .fault f
  | .refused r => .refused r

/-- `s` with a program byte in the ROM array: the mask program, placed from outside (R8, log 8). -/
def placeByte (a : RomAddr) (v : Byte) (s : State) : State := s.setRom (s.rom.write (romIndex s a) v)

/-- `s` with the bytes of an instruction at PC and RESET high, so that the next step runs it (log 8). -/
def placeInstruction (b1 b2 : Byte) (s : State) : State :=
  let t := placeByte (s.pc + 1#12) b2 (placeByte s.pc b1 s)
  t.setEnv { t.env with event := .run }

end Sys2Proof.Machine
end

