-- ==== Sys2Proof/Machine/Arithmetic.lean ====
section
/-! DEFINITION. The 16 arithmetic instructions (42_arithmetic.md rules R190-R206). -/

namespace Sys2Proof.Machine

/-- `INC A` (R191, log 17). -/
def execIncA (s : State) : Host.Outcome State Fault Refusal :=
  let r := add4 s.ac 1#4 false
  .next (advance 1#12 (sumFlags r (s.setAc r.1)))

/-- `INC L` (R192, log 17). -/
def execIncL (s : State) : Host.Outcome State Fault Refusal :=
  .next (advance 1#12 (incrementL s))

/-- `INC @HL` (R193). -/
def execIncHL (s : State) : Host.Outcome State Fault Refusal :=
  let r := add4 (readHL s) 1#4 false
  .next (advance 1#12 (sumFlags r (writeHL r.1 s)))

/-- `DEC A` (R194). -/
def execDecA (s : State) : Host.Outcome State Fault Refusal :=
  let r := sub4 s.ac 1#4 true
  .next (advance 1#12 (differenceFlags r (s.setAc r.1)))

/-- `DEC L` (R195). -/
def execDecL (s : State) : Host.Outcome State Fault Refusal :=
  .next (advance 1#12 (decrementL s))

/-- `DEC @HL` (R196). -/
def execDecHL (s : State) : Host.Outcome State Fault Refusal :=
  let r := sub4 (readHL s) 1#4 true
  .next (advance 1#12 (differenceFlags r (writeHL r.1 s)))

/-- `ADDC A, @HL` (R197). -/
def execAddcAHL (s : State) : Host.Outcome State Fault Refusal :=
  let r := add4 s.ac (readHL s) s.cf
  .next (advance 1#12 (sumFlags r ((s.setAc r.1).setCf r.2)))

/-- `ADD A, @HL` (R198): CF is not changed. -/
def execAddAHL (s : State) : Host.Outcome State Fault Refusal :=
  let r := add4 s.ac (readHL s) false
  .next (advance 1#12 (sumFlags r (s.setAc r.1)))

/-- `ADD A, #k` (R199). -/
def execAddAK (k : BitVec 4) (s : State) : Host.Outcome State Fault Refusal :=
  let r := add4 s.ac k false
  .next (advance 2#12 (sumFlags r (s.setAc r.1)))

/-- `ADD H, #k` (R200). -/
def execAddHK (k : BitVec 4) (s : State) : Host.Outcome State Fault Refusal :=
  let r := add4 s.hr k false
  .next (advance 2#12 (sumFlags r (s.setHr r.1)))

/-- `ADD L, #k` (R201). -/
def execAddLK (k : BitVec 4) (s : State) : Host.Outcome State Fault Refusal :=
  let r := add4 s.lr k false
  .next (advance 2#12 (sumFlags r (s.setLr r.1)))

/-- `ADD @HL, #k` (R202). -/
def execAddHLK (k : BitVec 4) (s : State) : Host.Outcome State Fault Refusal :=
  let r := add4 (readHL s) k false
  .next (advance 2#12 (sumFlags r (writeHL r.1 s)))

/-- `ADD y, #k` (R203). -/
def execAddYK (y : BitVec 4) (k : BitVec 4) (s : State) : Host.Outcome State Fault Refusal :=
  let r := add4 (memRead s (addrY y)) k false
  .next (advance 2#12 (sumFlags r (memWrite s (addrY y) r.1)))

/-- `SUBRC A, @HL` (R204): memory minus accumulator minus the inverted carry flag. -/
def execSubrcAHL (s : State) : Host.Outcome State Fault Refusal :=
  let r := sub4 (readHL s) s.ac s.cf
  .next (advance 1#12 (differenceFlags r ((s.setAc r.1).setCf r.2)))

/-- `SUBR A, #k` (R205): immediate minus accumulator. -/
def execSubrAK (k : BitVec 4) (s : State) : Host.Outcome State Fault Refusal :=
  let r := sub4 k s.ac true
  .next (advance 2#12 (differenceFlags r (s.setAc r.1)))

/-- `SUBR @HL, #k` (R206): immediate minus memory. -/
def execSubrHLK (k : BitVec 4) (s : State) : Host.Outcome State Fault Refusal :=
  let r := sub4 k (readHL s) true
  .next (advance 2#12 (differenceFlags r (writeHL r.1 s)))

end Sys2Proof.Machine
end

