-- ==== Sys2Proof/Machine/Bit.lean ====
section
/-! DEFINITION. The 24 bit manipulation instructions (44_bit.md rules R230-R255). -/

namespace Sys2Proof.Machine

/-- `TEST CF` (R231): the inverse of CF to SF, then CF is cleared. -/
def execTestCF (s : State) : Host.Outcome State Fault Refusal :=
  .next (advance 1#12 ((s.setSf (!s.cf)).setCf false))

/-- `TEST A, b` (R232). -/
def execTestAB (b : BitVec 2) (s : State) : Host.Outcome State Fault Refusal :=
  .next (advance 1#12 (s.setSf (!bitOf s.ac b)))

/-- `TEST @HL, b` (R233). -/
def execTestHLB (b : BitVec 2) (s : State) : Host.Outcome State Fault Refusal :=
  .next (advance 1#12 (s.setSf (!bitOf (readHL s) b)))

/-- `TEST y, b` (R234). -/
def execTestYB (y : BitVec 4) (b : BitVec 2) (s : State) : Host.Outcome State Fault Refusal :=
  .next (advance 2#12 (s.setSf (!bitOf (memRead s (addrY y)) b)))

/-- `TEST %p, b` (R235). -/
def execTestPB (p : BitVec 4) (b : BitVec 2) (s : State) : Host.Outcome State Fault Refusal :=
  match portTest p s with
  | .ok (v, t) => .next (advance 2#12 (t.setSf (!bitOf v b)))
  | .error r => .refused r

/-- `TEST @L` (R236): the pin, not the latch. -/
def execTestL (s : State) : Host.Outcome State Fault Refusal :=
  match portTest (portOfL s) s with
  | .ok (v, t) => .next (advance 1#12 (t.setSf (!bitOf v (bitOfL s))))
  | .error r => .refused r

/-- `TESTP CF` (R237): CF to SF, then CF is set. -/
def execTestpCF (s : State) : Host.Outcome State Fault Refusal :=
  .next (advance 1#12 ((s.setSf s.cf).setCf true))

/-- `TESTP ZF` (R238). -/
def execTestpZF (s : State) : Host.Outcome State Fault Refusal :=
  .next (advance 1#12 (s.setSf s.zf))

/-- `TESTP GF` (R239). -/
def execTestpGF (s : State) : Host.Outcome State Fault Refusal :=
  .next (advance 1#12 (s.setSf s.gf))

/-- `TESTP y, b` (R240). -/
def execTestpYB (y : BitVec 4) (b : BitVec 2) (s : State) : Host.Outcome State Fault Refusal :=
  .next (advance 2#12 (s.setSf (bitOf (memRead s (addrY y)) b)))

/-- `TESTP %p, b` (R241). -/
def execTestpPB (p : BitVec 4) (b : BitVec 2) (s : State) : Host.Outcome State Fault Refusal :=
  match portTest p s with
  | .ok (v, t) => .next (advance 2#12 (t.setSf (bitOf v b)))
  | .error r => .refused r

/-- `SET GF` (R242). -/
def execSetGF (s : State) : Host.Outcome State Fault Refusal :=
  .next (advance 1#12 ((s.setGf true).setSf true))

/-- `SET @HL, b` (R243). -/
def execSetHLB (b : BitVec 2) (s : State) : Host.Outcome State Fault Refusal :=
  .next (advance 1#12 ((writeHL (withBitSet (readHL s) b) s).setSf true))

/-- `SET y, b` (R244). -/
def execSetYB (y : BitVec 4) (b : BitVec 2) (s : State) : Host.Outcome State Fault Refusal :=
  .next (advance 2#12 ((memWrite s (addrY y) (withBitSet (memRead s (addrY y)) b)).setSf true))

/-- `SET %p, b` (R245). -/
def execSetPB (p : BitVec 4) (b : BitVec 2) (s : State) : Host.Outcome State Fault Refusal :=
  match updateLatch p (fun v => withBitSet v b) s with
  | .ok t => .next (advance 2#12 (t.setSf true))
  | .error r => .refused r

/-- `SET @L` (R246). -/
def execSetL (s : State) : Host.Outcome State Fault Refusal :=
  match updateLatch (portOfL s) (fun v => withBitSet v (bitOfL s)) s with
  | .ok t => .next (advance 1#12 (t.setSf true))
  | .error r => .refused r

/-- `CLR GF` (R247). -/
def execClrGF (s : State) : Host.Outcome State Fault Refusal :=
  .next (advance 1#12 ((s.setGf false).setSf true))

/-- `CLR @HL, b` (R248). -/
def execClrHLB (b : BitVec 2) (s : State) : Host.Outcome State Fault Refusal :=
  .next (advance 1#12 ((writeHL (withBitClear (readHL s) b) s).setSf true))

/-- `CLR y, b` (R249). -/
def execClrYB (y : BitVec 4) (b : BitVec 2) (s : State) : Host.Outcome State Fault Refusal :=
  .next (advance 2#12 ((memWrite s (addrY y) (withBitClear (memRead s (addrY y)) b)).setSf true))

/-- `CLR %p, b` (R250). -/
def execClrPB (p : BitVec 4) (b : BitVec 2) (s : State) : Host.Outcome State Fault Refusal :=
  match updateLatch p (fun v => withBitClear v b) s with
  | .ok t => .next (advance 2#12 (t.setSf true))
  | .error r => .refused r

/-- `CLR @L` (R251). -/
def execClrL (s : State) : Host.Outcome State Fault Refusal :=
  match updateLatch (portOfL s) (fun v => withBitClear v (bitOfL s)) s with
  | .ok t => .next (advance 1#12 (t.setSf true))
  | .error r => .refused r

/-- `CLR IL, r` (R252). -/
def execClrIL (r : BitVec 6) (s : State) : Host.Outcome State Fault Refusal :=
  .next (advance 2#12 ((s.setIntl (s.intl &&& r)).setSf true))

/-- `EICLR IL, r` (R253). -/
def execEiclrIL (r : BitVec 6) (s : State) : Host.Outcome State Fault Refusal :=
  .next (advance 2#12 (((s.setEif true).setIntl (s.intl &&& r)).setSf true))

/-- `DICLR IL, r` (R254). -/
def execDiclrIL (r : BitVec 6) (s : State) : Host.Outcome State Fault Refusal :=
  .next (advance 2#12 (((s.setEif false).setIntl (s.intl &&& r)).setSf true))

end Sys2Proof.Machine
end

