-- ==== Sys2Proof/Machine/Branch.lean ====
section
/-! DEFINITION. The branch and subroutine instructions and NOP (46_branch_other.md rules R285-R294). -/

namespace Sys2Proof.Machine

/-- The branch rule (R285): to `target` if SF = 1, else on; SF <- 1 either way. `s` has PC at the next instruction. -/
def branchTo (target : RomAddr) (s : State) : State :=
  (if s.sf then s.setPc target else s).setSf true

/-- The call (R289, R294): the address of the next instruction to the stack, a free value in the fourth word (U9, log 10),
PC <- target; refused at stack level F. `s` has PC at the next instruction. -/
def callTo (target : RomAddr) (s : State) : Host.Outcome State Fault Refusal :=
  if spw s = forbiddenLevel then .refused .stackLevelF
  else
    let (free, t) := takeFree s
    .next ((stackSave t.pc free t).setPc target)

/-- `BS a` (R287). -/
def execBs (a : BitVec 12) (s : State) : Host.Outcome State Fault Refusal :=
  .next (branchTo a (advance 2#12 s))

/-- `BSS a` (R288): the page is that of the next instruction. -/
def execBss (d : BitVec 6) (s : State) : Host.Outcome State Fault Refusal :=
  let t := advance 1#12 s
  .next (branchTo (t.pc.extractLsb' 6 6 ++ d) t)

/-- `CALL a` (R289): bit 11 of the target is 0. -/
def execCall (a : BitVec 11) (s : State) : Host.Outcome State Fault Refusal :=
  callTo (0#1 ++ a) (advance 2#12 s)

/-- `CALLS a` (R290): 086 for n = 0, else 8 n + 6. -/
def execCalls (n : BitVec 4) (s : State) : Host.Outcome State Fault Refusal :=
  callTo (if n = 0#4 then 0x086#12 else 8#12 * n.setWidth 12 + 6#12) (advance 1#12 s)

/-- `RET` (R291): the fourth word is discarded. -/
def execRet (s : State) : Host.Outcome State Fault Refusal :=
  if restoreLevel s = forbiddenLevel then .refused .stackLevelF
  else .next ((stackRestore s).setPc (restoredPc s))

/-- `RETI` (R292). -/
def execReti (s : State) : Host.Outcome State Fault Refusal :=
  if restoreLevel s = forbiddenLevel then .refused .stackLevelF
  else .next (returnFromInterrupt s)

/-- `NOP` (R293). -/
def execNop (s : State) : Host.Outcome State Fault Refusal :=
  .next (advance 1#12 s)

end Sys2Proof.Machine
end

