-- ==== Sys2Proof/Machine/Compare.lean ====
section
/-! DEFINITION. The 6 compare instructions (41_compare.md rules R180-R186): the second operand minus the first. -/

namespace Sys2Proof.Machine

/-- `CMPR A, @HL` (R181). -/
def execCmprAHL (s : State) : Host.Outcome State Fault Refusal :=
  .next (advance 1#12 (compareFlagsCf (readHL s) s.ac s))

/-- `CMPR A, x` (R182). -/
def execCmprAX (x : BitVec 8) (s : State) : Host.Outcome State Fault Refusal :=
  .next (advance 2#12 (compareFlagsCf (memRead s x) s.ac s))

/-- `CMPR A, #k` (R183). -/
def execCmprAK (k : BitVec 4) (s : State) : Host.Outcome State Fault Refusal :=
  .next (advance 1#12 (compareFlagsCf k s.ac s))

/-- `CMPR H, #k` (R184): CF is not changed. -/
def execCmprHK (k : BitVec 4) (s : State) : Host.Outcome State Fault Refusal :=
  .next (advance 2#12 (compareFlags k s.hr s))

/-- `CMPR L, #k` (R185): CF is not changed. -/
def execCmprLK (k : BitVec 4) (s : State) : Host.Outcome State Fault Refusal :=
  .next (advance 2#12 (compareFlags k s.lr s))

/-- `CMPR y, #k` (R186). -/
def execCmprYK (y : BitVec 4) (k : BitVec 4) (s : State) : Host.Outcome State Fault Refusal :=
  .next (advance 2#12 (compareFlagsCf k (memRead s (addrY y)) s))

end Sys2Proof.Machine
end

