-- ==== Sys2Proof/Machine/InputOutput.lean ====
section
/-! DEFINITION. The 6 input/output instructions (45_io.md rules R265-R271). -/

namespace Sys2Proof.Machine

/-- `IN %p, A` (R266). -/
def execInPA (p : BitVec 4) (s : State) : Host.Outcome State Fault Refusal :=
  match portIn p s with
  | .ok (v, t) => .next (advance 2#12 (logicFlags v (t.setAc v)))
  | .error r => .refused r

/-- `IN %p, @HL` (R267): ZF is not changed. -/
def execInPHL (p : BitVec 4) (s : State) : Host.Outcome State Fault Refusal :=
  match portIn p s with
  | .ok (v, t) => .next (advance 2#12 ((writeHL v t).setSf (!isZero v)))
  | .error r => .refused r

/-- `OUT A, %p` (R268). -/
def execOutAP (p : BitVec 5) (s : State) : Host.Outcome State Fault Refusal :=
  match portOut p s.ac s with
  | .ok t => .next (advance 2#12 (t.setSf true))
  | .error r => .refused r

/-- `OUT @HL, %p` (R269). -/
def execOutHLP (p : BitVec 5) (s : State) : Host.Outcome State Fault Refusal :=
  match portOut p (readHL s) s with
  | .ok t => .next (advance 2#12 (t.setSf true))
  | .error r => .refused r

/-- `OUT #k, %p` (R270). -/
def execOutKP (k : BitVec 4) (p : BitVec 4) (s : State) : Host.Outcome State Fault Refusal :=
  match portOut (p.setWidth 5) k s with
  | .ok t => .next (advance 2#12 (t.setSf true))
  | .error r => .refused r

/-- `OUTB @HL` (R271): the PLA table byte, high nibble to P2, low nibble to P1. -/
def execOutbHL (s : State) : Host.Outcome State Fault Refusal :=
  let v := romRead s (addrPla s)
  let t := s.setPorts { s.ports with p2 := v.extractLsb' 4 4, p1 := v.extractLsb' 0 4 }
  .next (advance 1#12 (t.setSf true))

end Sys2Proof.Machine
end

