-- ==== Sys2Proof/Machine/Logical.lean ====
section
/-! DEFINITION. The 9 logical instructions (43_logical.md rules R215-R224). -/

namespace Sys2Proof.Machine

/-- `ROLC A` (R216): CF enters bit 0, bit 3 enters CF. -/
def execRolcA (s : State) : Host.Outcome State Fault Refusal :=
  let v : Nibble := s.ac.extractLsb' 0 3 ++ BitVec.ofBool s.cf
  .next (advance 1#12 (rotateFlags v (s.ac.getLsbD 3) (s.setAc v)))

/-- `RORC A` (R217): CF enters bit 3, bit 0 enters CF. -/
def execRorcA (s : State) : Host.Outcome State Fault Refusal :=
  let v : Nibble := BitVec.ofBool s.cf ++ s.ac.extractLsb' 1 3
  .next (advance 1#12 (rotateFlags v (s.ac.getLsbD 0) (s.setAc v)))

/-- `AND A, @HL` (R218). -/
def execAndAHL (s : State) : Host.Outcome State Fault Refusal :=
  let v := s.ac &&& readHL s
  .next (advance 1#12 (logicFlags v (s.setAc v)))

/-- `AND A, #k` (R219). -/
def execAndAK (k : BitVec 4) (s : State) : Host.Outcome State Fault Refusal :=
  let v := s.ac &&& k
  .next (advance 2#12 (logicFlags v (s.setAc v)))

/-- `AND @HL, #k` (R220). -/
def execAndHLK (k : BitVec 4) (s : State) : Host.Outcome State Fault Refusal :=
  let v := readHL s &&& k
  .next (advance 2#12 (logicFlags v (writeHL v s)))

/-- `OR A, @HL` (R221). -/
def execOrAHL (s : State) : Host.Outcome State Fault Refusal :=
  let v := s.ac ||| readHL s
  .next (advance 1#12 (logicFlags v (s.setAc v)))

/-- `OR A, #k` (R222). -/
def execOrAK (k : BitVec 4) (s : State) : Host.Outcome State Fault Refusal :=
  let v := s.ac ||| k
  .next (advance 2#12 (logicFlags v (s.setAc v)))

/-- `OR @HL, #k` (R223). -/
def execOrHLK (k : BitVec 4) (s : State) : Host.Outcome State Fault Refusal :=
  let v := readHL s ||| k
  .next (advance 2#12 (logicFlags v (writeHL v s)))

/-- `XOR A, @HL` (R224). -/
def execXorAHL (s : State) : Host.Outcome State Fault Refusal :=
  let v := s.ac ^^^ readHL s
  .next (advance 1#12 (logicFlags v (s.setAc v)))

end Sys2Proof.Machine
end

