-- ==== Sys2Proof/Machine/Move.lean ====
section
/-! DEFINITION. The 22 move instructions (40_move.md rules R150-R172). -/

namespace Sys2Proof.Machine

/-- `LD A, @HL` (R150). -/
def execLdAHL (s : State) : Host.Outcome State Fault Refusal :=
  .next (advance 1#12 (loadAc (readHL s) s))

/-- `LD A, x` (R151). -/
def execLdAX (x : BitVec 8) (s : State) : Host.Outcome State Fault Refusal :=
  .next (advance 2#12 (loadAc (memRead s x) s))

/-- `LD A, #k` (R152). -/
def execLdAK (k : BitVec 4) (s : State) : Host.Outcome State Fault Refusal :=
  .next (advance 1#12 (loadAc k s))

/-- `LD HL, x` (R153): L from the lower word, H from the next; the two low bits of x are ignored. -/
def execLdHLX (x : BitVec 8) (s : State) : Host.Outcome State Fault Refusal :=
  let a := addrPair x
  .next (advance 2#12 (((s.setLr (memRead s a)).setHr (memRead s (a + 1#8))).setSf true))

/-- `LD H, #k` (R154). -/
def execLdHK (k : BitVec 4) (s : State) : Host.Outcome State Fault Refusal :=
  .next (advance 1#12 ((s.setHr k).setSf true))

/-- `LD L, #k` (R155). -/
def execLdLK (k : BitVec 4) (s : State) : Host.Outcome State Fault Refusal :=
  .next (advance 1#12 ((s.setLr k).setSf true))

/-- `LDL A, @DC` (R157): the low nibble of the ROM byte; DC is not changed. -/
def execLdlADC (s : State) : Host.Outcome State Fault Refusal :=
  .next (advance 1#12 (loadAc ((romRead s (dataCounter s)).extractLsb' 0 4) s))

/-- `LDH A, @DC+` (R158): the high nibble of the ROM byte, then DC is incremented. -/
def execLdhADCInc (s : State) : Host.Outcome State Fault Refusal :=
  let dc := dataCounter s
  .next (advance 1#12 (loadAc ((romRead s dc).extractLsb' 4 4) (writeTriple s dcAddr (dc + 1#12))))

/-- `ST A, @HL` (R159). -/
def execStAHL (s : State) : Host.Outcome State Fault Refusal :=
  .next (advance 1#12 ((writeHL s.ac s).setSf true))

/-- `ST A, @HL+` (R160). -/
def execStAHLInc (s : State) : Host.Outcome State Fault Refusal :=
  .next (advance 1#12 (incrementL (writeHL s.ac s)))

/-- `ST A, @HL-` (R161). -/
def execStAHLDec (s : State) : Host.Outcome State Fault Refusal :=
  .next (advance 1#12 (decrementL (writeHL s.ac s)))

/-- `ST A, x` (R162). -/
def execStAX (x : BitVec 8) (s : State) : Host.Outcome State Fault Refusal :=
  .next (advance 2#12 ((memWrite s x s.ac).setSf true))

/-- `ST #k, @HL+` (R163). -/
def execStKHLInc (k : BitVec 4) (s : State) : Host.Outcome State Fault Refusal :=
  .next (advance 1#12 (incrementL (writeHL k s)))

/-- `ST #k, y` (R164). -/
def execStKY (k : BitVec 4) (y : BitVec 4) (s : State) : Host.Outcome State Fault Refusal :=
  .next (advance 2#12 ((memWrite s (addrY y) k).setSf true))

/-- `MOV H, A` (R165): the accumulator receives H. -/
def execMovHA (s : State) : Host.Outcome State Fault Refusal :=
  .next (advance 1#12 (loadAc s.hr s))

/-- `MOV L, A` (R166): the accumulator receives L. -/
def execMovLA (s : State) : Host.Outcome State Fault Refusal :=
  .next (advance 1#12 (loadAc s.lr s))

/-- `XCH A, H` (R167). -/
def execXchAH (s : State) : Host.Outcome State Fault Refusal :=
  .next (advance 1#12 (loadAc s.hr (s.setHr s.ac)))

/-- `XCH A, L` (R168). -/
def execXchAL (s : State) : Host.Outcome State Fault Refusal :=
  .next (advance 1#12 (loadAc s.lr (s.setLr s.ac)))

/-- `XCH A, EIR` (R169): ZF is not changed. -/
def execXchAEIR (s : State) : Host.Outcome State Fault Refusal :=
  .next (advance 1#12 (((s.setAc s.eir).setEir s.ac).setSf true))

/-- `XCH A, @HL` (R170). -/
def execXchAHL (s : State) : Host.Outcome State Fault Refusal :=
  .next (advance 1#12 (loadAc (readHL s) (writeHL s.ac s)))

/-- `XCH A, x` (R171). -/
def execXchAX (x : BitVec 8) (s : State) : Host.Outcome State Fault Refusal :=
  .next (advance 2#12 (loadAc (memRead s x) (memWrite s x s.ac)))

/-- `XCH HL, x` (R172): L with the lower word, H with the next; the two low bits of x are ignored. -/
def execXchHLX (x : BitVec 8) (s : State) : Host.Outcome State Fault Refusal :=
  let a := addrPair x
  let t := memWrite (memWrite s a s.lr) (a + 1#8) s.hr
  .next (advance 2#12 (((t.setLr (memRead s a)).setHr (memRead s (a + 1#8))).setSf true))

end Sys2Proof.Machine
end

