-- ==== Sys2Proof/Machine/Dispatch.lean ====
section
/-! DEFINITION. The effect of one instruction: one arm per constructor of `Instr`. -/

namespace Sys2Proof.Machine

def exec (i : Instr) (s : State) : Host.Outcome State Fault Refusal :=
  match i with
  | .ldAHL => Sys2Proof.Machine.execLdAHL s
  | .ldAX x => Sys2Proof.Machine.execLdAX x s
  | .ldAK k => Sys2Proof.Machine.execLdAK k s
  | .ldHLX x => Sys2Proof.Machine.execLdHLX x s
  | .ldHK k => Sys2Proof.Machine.execLdHK k s
  | .ldLK k => Sys2Proof.Machine.execLdLK k s
  | .ldlADC => Sys2Proof.Machine.execLdlADC s
  | .ldhADCInc => Sys2Proof.Machine.execLdhADCInc s
  | .stAHL => Sys2Proof.Machine.execStAHL s
  | .stAHLInc => Sys2Proof.Machine.execStAHLInc s
  | .stAHLDec => Sys2Proof.Machine.execStAHLDec s
  | .stAX x => Sys2Proof.Machine.execStAX x s
  | .stKHLInc k => Sys2Proof.Machine.execStKHLInc k s
  | .stKY k y => Sys2Proof.Machine.execStKY k y s
  | .movHA => Sys2Proof.Machine.execMovHA s
  | .movLA => Sys2Proof.Machine.execMovLA s
  | .xchAH => Sys2Proof.Machine.execXchAH s
  | .xchAL => Sys2Proof.Machine.execXchAL s
  | .xchAEIR => Sys2Proof.Machine.execXchAEIR s
  | .xchAHL => Sys2Proof.Machine.execXchAHL s
  | .xchAX x => Sys2Proof.Machine.execXchAX x s
  | .xchHLX x => Sys2Proof.Machine.execXchHLX x s
  | .cmprAHL => Sys2Proof.Machine.execCmprAHL s
  | .cmprAX x => Sys2Proof.Machine.execCmprAX x s
  | .cmprAK k => Sys2Proof.Machine.execCmprAK k s
  | .cmprHK k => Sys2Proof.Machine.execCmprHK k s
  | .cmprLK k => Sys2Proof.Machine.execCmprLK k s
  | .cmprYK y k => Sys2Proof.Machine.execCmprYK y k s
  | .incA => Sys2Proof.Machine.execIncA s
  | .incL => Sys2Proof.Machine.execIncL s
  | .incHL => Sys2Proof.Machine.execIncHL s
  | .decA => Sys2Proof.Machine.execDecA s
  | .decL => Sys2Proof.Machine.execDecL s
  | .decHL => Sys2Proof.Machine.execDecHL s
  | .addcAHL => Sys2Proof.Machine.execAddcAHL s
  | .addAHL => Sys2Proof.Machine.execAddAHL s
  | .addAK k => Sys2Proof.Machine.execAddAK k s
  | .addHK k => Sys2Proof.Machine.execAddHK k s
  | .addLK k => Sys2Proof.Machine.execAddLK k s
  | .addHLK k => Sys2Proof.Machine.execAddHLK k s
  | .addYK y k => Sys2Proof.Machine.execAddYK y k s
  | .subrcAHL => Sys2Proof.Machine.execSubrcAHL s
  | .subrAK k => Sys2Proof.Machine.execSubrAK k s
  | .subrHLK k => Sys2Proof.Machine.execSubrHLK k s
  | .rolcA => Sys2Proof.Machine.execRolcA s
  | .rorcA => Sys2Proof.Machine.execRorcA s
  | .andAHL => Sys2Proof.Machine.execAndAHL s
  | .andAK k => Sys2Proof.Machine.execAndAK k s
  | .andHLK k => Sys2Proof.Machine.execAndHLK k s
  | .orAHL => Sys2Proof.Machine.execOrAHL s
  | .orAK k => Sys2Proof.Machine.execOrAK k s
  | .orHLK k => Sys2Proof.Machine.execOrHLK k s
  | .xorAHL => Sys2Proof.Machine.execXorAHL s
  | .testCF => Sys2Proof.Machine.execTestCF s
  | .testAB b => Sys2Proof.Machine.execTestAB b s
  | .testHLB b => Sys2Proof.Machine.execTestHLB b s
  | .testYB y b => Sys2Proof.Machine.execTestYB y b s
  | .testPB p b => Sys2Proof.Machine.execTestPB p b s
  | .testL => Sys2Proof.Machine.execTestL s
  | .testpCF => Sys2Proof.Machine.execTestpCF s
  | .testpZF => Sys2Proof.Machine.execTestpZF s
  | .testpGF => Sys2Proof.Machine.execTestpGF s
  | .testpYB y b => Sys2Proof.Machine.execTestpYB y b s
  | .testpPB p b => Sys2Proof.Machine.execTestpPB p b s
  | .setGF => Sys2Proof.Machine.execSetGF s
  | .setHLB b => Sys2Proof.Machine.execSetHLB b s
  | .setYB y b => Sys2Proof.Machine.execSetYB y b s
  | .setPB p b => Sys2Proof.Machine.execSetPB p b s
  | .setL => Sys2Proof.Machine.execSetL s
  | .clrGF => Sys2Proof.Machine.execClrGF s
  | .clrHLB b => Sys2Proof.Machine.execClrHLB b s
  | .clrYB y b => Sys2Proof.Machine.execClrYB y b s
  | .clrPB p b => Sys2Proof.Machine.execClrPB p b s
  | .clrL => Sys2Proof.Machine.execClrL s
  | .clrIL r => Sys2Proof.Machine.execClrIL r s
  | .eiclrIL r => Sys2Proof.Machine.execEiclrIL r s
  | .diclrIL r => Sys2Proof.Machine.execDiclrIL r s
  | .inPA p => Sys2Proof.Machine.execInPA p s
  | .inPHL p => Sys2Proof.Machine.execInPHL p s
  | .outAP p => Sys2Proof.Machine.execOutAP p s
  | .outHLP p => Sys2Proof.Machine.execOutHLP p s
  | .outKP k p => Sys2Proof.Machine.execOutKP k p s
  | .outbHL => Sys2Proof.Machine.execOutbHL s
  | .bs a => Sys2Proof.Machine.execBs a s
  | .bss d => Sys2Proof.Machine.execBss d s
  | .call a => Sys2Proof.Machine.execCall a s
  | .calls n => Sys2Proof.Machine.execCalls n s
  | .ret => Sys2Proof.Machine.execRet s
  | .reti => Sys2Proof.Machine.execReti s
  | .nop => Sys2Proof.Machine.execNop s

end Sys2Proof.Machine
end

