-- ==== Sys2Proof/Machine/Abandon.lean ====
section
/-! DEFINITION. A step that RESET abandons (70_reset_and_hazards.md rules R401, R404): which RAM words a step writes, and the
initialization operation after they have become unspecified. -/

namespace Sys2Proof.Machine

/-- The three RAM words of a 12-bit quantity (R88 (f)). -/
def tripleWords (base : RamAddr) : List RamAddr := [base, base + 1#8, base + 2#8]

/-- The RAM words a save to the stack writes: the level's four, and SPW (R294). -/
def saveWords (s : State) : List RamAddr :=
  [stackAddr (spw s), stackAddr (spw s) + 1#8, stackAddr (spw s) + 2#8, stackAddr (spw s) + 3#8, spwAddr]

/-- The RAM words an instruction writes, by the `MemWrite`s of its rule. -/
def instrWords (i : Instr) (s : State) : List RamAddr :=
  match i with
  | .ldAHL => []
  | .ldAX _ => []
  | .ldAK _ => []
  | .ldHLX _ => []
  | .ldHK _ => []
  | .ldLK _ => []
  | .ldlADC => []
  | .ldhADCInc => tripleWords dcAddr
  | .stAHL => [addrHL s]
  | .stAHLInc => [addrHL s]
  | .stAHLDec => [addrHL s]
  | .stAX x => [x]
  | .stKHLInc _ => [addrHL s]
  | .stKY _ y => [addrY y]
  | .movHA => []
  | .movLA => []
  | .xchAH => []
  | .xchAL => []
  | .xchAEIR => []
  | .xchAHL => [addrHL s]
  | .xchAX x => [x]
  | .xchHLX x => [addrPair x, addrPair x + 1#8]
  | .cmprAHL => []
  | .cmprAX _ => []
  | .cmprAK _ => []
  | .cmprHK _ => []
  | .cmprLK _ => []
  | .cmprYK _ _ => []
  | .incA => []
  | .incL => []
  | .incHL => [addrHL s]
  | .decA => []
  | .decL => []
  | .decHL => [addrHL s]
  | .addcAHL => []
  | .addAHL => []
  | .addAK _ => []
  | .addHK _ => []
  | .addLK _ => []
  | .addHLK _ => [addrHL s]
  | .addYK y _ => [addrY y]
  | .subrcAHL => []
  | .subrAK _ => []
  | .subrHLK _ => [addrHL s]
  | .rolcA => []
  | .rorcA => []
  | .andAHL => []
  | .andAK _ => []
  | .andHLK _ => [addrHL s]
  | .orAHL => []
  | .orAK _ => []
  | .orHLK _ => [addrHL s]
  | .xorAHL => []
  | .testCF => []
  | .testAB _ => []
  | .testHLB _ => []
  | .testYB _ _ => []
  | .testPB _ _ => []
  | .testL => []
  | .testpCF => []
  | .testpZF => []
  | .testpGF => []
  | .testpYB _ _ => []
  | .testpPB _ _ => []
  | .setGF => []
  | .setHLB _ => [addrHL s]
  | .setYB y _ => [addrY y]
  | .setPB _ _ => []
  | .setL => []
  | .clrGF => []
  | .clrHLB _ => [addrHL s]
  | .clrYB y _ => [addrY y]
  | .clrPB _ _ => []
  | .clrL => []
  | .clrIL _ => []
  | .eiclrIL _ => []
  | .diclrIL _ => []
  | .inPA _ => []
  | .inPHL _ => [addrHL s]
  | .outAP _ => []
  | .outHLP _ => []
  | .outKP _ _ => []
  | .outbHL => []
  | .bs _ => []
  | .bss _ => []
  | .call _ => saveWords s
  | .calls _ => saveWords s
  | .ret => [spwAddr]
  | .reti => [spwAddr]
  | .nop => []

/-- The RAM words the count operations of step 3 of R315 write (R366). -/
def countWords (fuel : Nat) (s : State) : List RamAddr :=
  match fuel with
  | 0 => []
  | k + 1 =>
    if s.cntl1 then tripleWords (counterAddr .one) ++ countWords k (tick (countOperation .one s))
    else if s.cntl2 then tripleWords (counterAddr .two) ++ countWords k (tick (countOperation .two s))
    else []

/-- The RAM words the acceptance of step 4 of R315 writes, where there is one (R310). -/
def acceptWords (s : State) : List RamAddr :=
  match pendingFactor s with
  | none => []
  | some _ => saveWords s

/-- The RAM words the whole step of instruction `i` at `s` writes; `t` is the state after the instruction's effect. -/
def stepWords (i : Instr) (s t : State) : List RamAddr :=
  instrWords i s ++ countWords countBound (ticks (instrCycles i) t) ++
    acceptWords (afterInstruction (instrCycles i) t)

/-- `s` with a free value in each of the words. -/
def freeWords (words : List RamAddr) (s : State) : State :=
  match words with
  | [] => s
  | a :: rest => freeWords rest (memWrite (takeFree s).2 a (takeFree s).1)

/-- The acceptance the step would come to is one at stack level F, which has no meaning (U6). -/
def acceptsAtLevelF (s : State) : Bool := (pendingFactor s).isSome && spw s == forbiddenLevel

/-- The initialization operation that strikes inside the step at `s` (R401, R404): the words the step was writing are
unspecified. Where the spec gives the step no meaning, and so does not say what it was writing, every word is (log 7). -/
def abandonStep (s : State) : State :=
  match fetch s with
  | .error _ => powerUpMachine s
  | .ok i =>
    match exec i s with
    | .next t =>
      if acceptsAtLevelF (afterInstruction (instrCycles i) t) then powerUpMachine s
      else
        resetMachine
          (freeWords (stepWords i s t) (s.setFreeCount (afterInstruction (instrCycles i) t).freeCount))
    | .fault _ => powerUpMachine s
    | .refused _ => powerUpMachine s

end Sys2Proof.Machine
end

