-- ==== Sys2Proof/Machine/Step.lean ====
section
/-! DEFINITION. One step of the machine (60_exceptions.md rule R315) and the placing of an instruction for it. -/

namespace Sys2Proof.Machine

/-- `Step(env)` (R315): the instruction at PC, its cycles, the count operations, the interrupt decision; or, when the
outside world holds RESET low, the initialization operation in their place (R401), also where it abandons them. -/
def step (s : State) : Host.Outcome State Fault Refusal :=
  match s.env.event with
  | .reset => .next (nextEnv (resetMachine s))
  | .resetInStep => .next (nextEnv (abandonStep s))
  | .powerUp => .next (nextEnv (powerUpMachine s))
  | .run =>
    match fetch s with
    | .error _ => .refused (fetchRefusal s)
    | .ok i =>
      match exec i s with
      | .next t => completeStep (instrCycles i) t
      | .fault f => .fault f
      | .refused r => .refused r

/-- `s` with the instruction of a table word stored where the next step fetches it (log 8). -/
def State.withFetchWord (s : State) (nbits w : Nat) : State :=
  match tableBytes nbits w with
  | b1 :: b2 :: _ => placeInstruction b1 b2 s
  | _ => s

end Sys2Proof.Machine
end

