-- ==== Sys2Proof/Safety.lean ====
section
/-! DEFINITION. What counts as a safe run, the invariant of the machine, and the words the statements about it use. -/

namespace Sys2Proof.Machine

/-! Safe runs -/

/-- The state `n` steps on, if no step before it stops. -/
def runSteps (n : Nat) (s : State) : Option State :=
  match n with
  | 0 => some s
  | k + 1 =>
    match step s with
    | .next t => runSteps k t
    | .fault _ => none
    | .refused _ => none

/-- A run of `n` steps is safe when none of them is refused: the program stays inside what the spec gives a meaning
(93_implementation_defined.md, treatment `refuse`). -/
def SafeRun (n : Nat) (s : State) : Prop := (runSteps n s).isSome = true

/-! The invariant -/

/-- What every step keeps: both memories in canonical form and inside their arrays (R71, R75); an enabled serial port is
in a usable mode (R371, U7); while it is enabled a transfer is in progress (R376, R377, R379). -/
structure StateInv (s : State) : Prop where
  ram_wf : s.ram.wf (ramSize s.part) = true
  rom_wf : s.rom.wf (romSize s.part) = true
  mode_usable : s.cmds.cmd1F.getLsbD 3 = true → s.cmds.cmd1F.extractLsb' 1 2 ≠ 0b00#2
  transfer : s.cmds.cmd1F.getLsbD 3 = true → s.sio.siof = true

/-! Words for the statements -/

/-- These bytes are the encoding of the instruction, and it takes `cycles` instruction cycles. -/
def Encodes (bytes : List Byte) (i : Instr) (cycles : Nat) : Prop :=
  (∀ rest, decode (bytes ++ rest) = .ok (i, rest)) ∧ instrCycles i = cycles

/-- The RAM `m` differs from that of `s` in one word: the one that answers to `addr`, which holds `v` (R77). -/
def WordStored (s : State) (m : Memory 4) (addr : RamAddr) (v : Nibble) : Prop :=
  ∀ a, memRead (s.setRam m) a = if ramIndex s a = ramIndex s addr then v else memRead s a

/-- Every word of the RAM `m` reads as in `s`, except those that answer to an address in `written`. -/
def OnlyWords (s : State) (m : Memory 4) (written : List RamAddr) : Prop :=
  ∀ a, (∀ w ∈ written, ramIndex s a ≠ ramIndex s w) → memRead (s.setRam m) a = memRead s a

/-- The output latch of a port 1, 2, 4 to 9; the port 9 has three bits and reads 1 in the fourth (R46, R87). -/
def latchOf (P : Ports) (p : Nibble) : Nibble :=
  match p.toNat with
  | 1 => P.p1
  | 2 => P.p2
  | 4 => P.r4
  | 5 => P.r5
  | 6 => P.r6
  | 7 => P.r7
  | 8 => P.r8
  | _ => 1#1 ++ P.r9

/-- The latches with that of one port replaced; port 9 keeps the low three bits (R46, R86). -/
def withLatch (P : Ports) (p v : Nibble) : Ports :=
  match p.toNat with
  | 1 => { P with p1 := v }
  | 2 => { P with p2 := v }
  | 4 => { P with r4 := v }
  | 5 => { P with r5 := v }
  | 6 => { P with r6 := v }
  | 7 => { P with r7 := v }
  | 8 => { P with r8 := v }
  | _ => { P with r9 := v.extractLsb' 0 3 }

/-- RM.LM = 01 in the command register OP1F: transmit mode (R371). -/
def transmitSelected (s : State) : Bool := !s.cmds.cmd1F.getLsbD 2 && s.cmds.cmd1F.getLsbD 1

/-- The serial port drives its pins: it is enabled or a transfer is in progress (R348, log 25). -/
def serialDrives (s : State) : Bool := s.cmds.cmd1F.getLsbD 3 || s.sio.siof

/-- The level of pin SCK: latch, outside level and, in the internal clock mode, the port's clock (R84, R373). -/
def levelSck (s : State) : Bool :=
  s.ports.r9.getLsbD 2 && s.env.r9.getLsbD 2 &&
    (if serialDrives s && !s.cmds.cmd1F.getLsbD 0 then s.sio.sckOut else true)

/-- The level of pin SO: latch, outside level and, in transmit mode, the port's data (R84, R373). -/
def levelSo (s : State) : Bool :=
  s.ports.r9.getLsbD 1 && s.env.r9.getLsbD 1 && (if serialDrives s && transmitSelected s then s.sio.sOut else true)

/-- The level of pin SI: latch and outside level (R84). -/
def levelSi (s : State) : Bool := s.ports.r9.getLsbD 0 && s.env.r9.getLsbD 0

/-- What a port shows to an input (R84, R85); `u` are the two bits of the status port that the spec leaves open (U4). -/
def portValue (s : State) (p : Nibble) (u : BitVec 2) : Nibble :=
  match p.toNat with
  | 0x0 => s.env.k0
  | 0x1 => s.ports.p1
  | 0x2 => s.ports.p2
  | 0x4 => s.ports.r4 &&& s.env.r4
  | 0x5 => s.ports.r5 &&& s.env.r5
  | 0x6 => s.ports.r6 &&& s.env.r6
  | 0x7 => s.ports.r7 &&& s.env.r7
  | 0x8 => s.ports.r8 &&& s.env.r8
  | 0x9 => 1#1 ++ BitVec.ofBool (levelSck s) ++ BitVec.ofBool (levelSo s) ++ BitVec.ofBool (levelSi s)
  | 0xE => BitVec.ofBool s.sio.siof ++ BitVec.ofBool s.sio.sef ++ u
  | _ => s.sio.sb

/-- The state after reading a port: a read of the status port uses up a free value (log 11), a read of the serial buffer
has the effect of R378, every other read has none (R91). -/
def afterRead (s : State) (p : Nibble) : State :=
  if p = 0xE#4 then { s with freeCount := s.freeCount + 1 }
  else if p = 0xF#4 then
    if s.sio.srFull then
      { s with
        sio := { s.sio with sb := s.sio.sr, sbFull := true, srFull := false, req := true, waiting := false }
        intl := s.intl ||| 0b010000#6 }
    else { s with sio := { s.sio with req := false, sbFull := false } }
  else s

/-- What the initialization operation leaves of `s`, whenever it strikes (R402, R404, R405; serial state and count latches
D14, log 5; edge memories D29): `t` has every initialised field at its value and, where R404 leaves a field open, a free
value of its own (log 7). RAM is not spoken of. -/
structure AfterReset (s t : State) : Prop where
  pc : t.pc = 0
  sf : t.sf = true
  interrupts : t.eif = false ∧ t.eir = 0 ∧ t.intl = 0
  divider : t.divider.extractLsb' 1 18 = 0
  cmds : t.cmds = { cmd19 := 0, cmd1C := 0, cmd1D := 0, cmd1F := 0 }
  ports : t.ports.p1 = 0xF ∧ t.ports.p2 = 0xF ∧ t.ports.r7 = 0xF ∧ t.ports.r8 = 0xF ∧ t.ports.r9 = 0b111
  ports_high : s.ioCode = .aa ∨ s.ioCode = .ae ∨ s.ioCode = .af → t.ports.r4 = 0xF ∧ t.ports.r5 = 0xF ∧ t.ports.r6 = 0xF
  ports_low : s.ioCode = .ah ∨ s.ioCode = .ai → t.ports.r4 = 0x0 ∧ t.ports.r5 = 0x0 ∧ t.ports.r6 = 0x0
  count : t.cntl1 = false ∧ t.cntl2 = false
  serial : t.sio =
    { sr := t.sio.sr, sb := t.sio.sb, siof := false, sef := false, req := false, nb := 0, sbFull := false,
      srFull := false, sOut := true, sckOut := true, waiting := false, unspec := false }
  prev : t.prev =
    { r82 := s.env.r8.getLsbD 2, r80 := s.env.r8.getLsbD 0, r83 := s.env.r8.getLsbD 3, r81 := s.env.r8.getLsbD 1,
      r92 := s.env.r9.getLsbD 2 }
  chip : t.rom = s.rom ∧ t.part = s.part ∧ t.ioCode = s.ioCode
  opened : ∃ k, t.ac = Config.freeNibble k ∧ t.hr = Config.freeNibble (k + 1) ∧ t.lr = Config.freeNibble (k + 2) ∧
    t.cf = (Config.freeNibble (k + 3)).getLsbD 3 ∧ t.zf = (Config.freeNibble (k + 3)).getLsbD 2 ∧
    t.gf = (Config.freeNibble (k + 3)).getLsbD 0 ∧ t.sio.sr = Config.freeNibble (k + 4) ∧
    t.sio.sb = Config.freeNibble (k + 5) ∧ t.divider.getLsbD 0 = (Config.freeNibble (k + 6)).getLsbD 0

/-- The leading edge of the shift clock in this cycle (R374): with the internal clock, while a transfer runs and does not
wait, FD3 goes from 1 to 0; with the external one, pin SCK does. -/
def shiftLeads (s : State) : Bool :=
  if s.cmds.cmd1F.getLsbD 0 then s.prev.r92 && !levelSck s
  else s.sio.siof && !s.sio.waiting && s.divider.getLsbD 3 && !(s.divider + 1).getLsbD 3

/-- The trailing edge of the shift clock in this cycle (R374): the same signals go from 0 to 1. -/
def shiftTrails (s : State) : Bool :=
  if s.cmds.cmd1F.getLsbD 0 then !s.prev.r92 && levelSck s
  else s.sio.siof && !s.sio.waiting && !s.divider.getLsbD 3 && (s.divider + 1).getLsbD 3

/-- The serial registers after this cycle's shift: RM.LM chooses the operation and its edge (R371, R376, R379), and there
is none while SIOF = 0. -/
def shifted (s : State) : Serial :=
  if !s.sio.siof then s.sio
  else
    match s.cmds.cmd1F.getLsbD 2, s.cmds.cmd1F.getLsbD 1 with
    | false, false => s.sio
    | false, true => if shiftLeads s then (transmitEdge s).sio else s.sio
    | true, false => if shiftTrails s then (receiveEdge (levelSi s) s).sio else s.sio
    | true, true => if shiftLeads s then (receiveEdge (levelSi s) s).sio else s.sio

end Sys2Proof.Machine
end

