-- ==== Sys2Proof/Certificates/Slice0/Obligations.lean ====
section
/-! DEFINITION. The statements for the provers. Each docstring names the rules of spec/ it formalises; OBLIGATIONS.json
lists them. A state written `{ s with … }` says the whole frame: every field not named is that of `s`. -/

open Sys2Proof Sys2Proof.Machine

/-! ## Move instructions -/

/-- R150-R155: the loads. RAM, CF, GF and every field not named are unchanged. -/
def Obligations.LoadResults : Prop :=
  (∀ s, exec .ldAHL s = .next
    { s with pc := s.pc + 1, ac := memRead s (s.hr ++ s.lr), zf := decide (memRead s (s.hr ++ s.lr) = 0), sf := true }) ∧
  (∀ s x, exec (.ldAX x) s = .next
    { s with pc := s.pc + 2, ac := memRead s x, zf := decide (memRead s x = 0), sf := true }) ∧
  (∀ s k, exec (.ldAK k) s = .next { s with pc := s.pc + 1, ac := k, zf := decide (k = 0), sf := true }) ∧
  (∀ s x, exec (.ldHLX x) s = .next
    { s with pc := s.pc + 2, lr := memRead s (x &&& 0xFC), hr := memRead s ((x &&& 0xFC) + 1), sf := true }) ∧
  (∀ s k, exec (.ldHK k) s = .next { s with pc := s.pc + 1, hr := k, sf := true }) ∧
  (∀ s k, exec (.ldLK k) s = .next { s with pc := s.pc + 1, lr := k, sf := true }) ∧
  Encodes [0x0C] .ldAHL 1 ∧ (∀ x, Encodes [0x3C, x] (.ldAX x) 2) ∧ (∀ k, Encodes [0x4#4 ++ k] (.ldAK k) 1) ∧
  (∀ x, Encodes [0x28, x] (.ldHLX x) 2) ∧ (∀ k, Encodes [0xC#4 ++ k] (.ldHK k) 1) ∧
  (∀ k, Encodes [0xE#4 ++ k] (.ldLK k) 1)

/-- R157, R158, R421: the ROM table loads. DC is FE.FD.FC, the nibble order of D6 (the spec's own choice, log 14). -/
def Obligations.RomTableLoadResults : Prop :=
  (∀ s, exec .ldlADC s = .next
    { s with
      pc := s.pc + 1
      ac := (romRead s (memRead s 0xFE ++ memRead s 0xFD ++ memRead s 0xFC)).extractLsb' 0 4
      zf := decide ((romRead s (memRead s 0xFE ++ memRead s 0xFD ++ memRead s 0xFC)).extractLsb' 0 4 = 0)
      sf := true }) ∧
  (∀ s (dc : RomAddr), dc = memRead s 0xFE ++ memRead s 0xFD ++ memRead s 0xFC → ∃ m,
    exec .ldhADCInc s = .next
      { s with
        pc := s.pc + 1
        ac := (romRead s dc).extractLsb' 4 4
        zf := decide ((romRead s dc).extractLsb' 4 4 = 0)
        sf := true
        ram := m } ∧
    memRead (s.setRam m) 0xFE ++ memRead (s.setRam m) 0xFD ++ memRead (s.setRam m) 0xFC =
      BitVec.ofNat 12 ((dc.toNat + 1) % 4096) ∧
    OnlyWords s m [0xFC, 0xFD, 0xFE]) ∧
  Encodes [0x33] .ldlADC 2 ∧ Encodes [0x32] .ldhADCInc 2

/-- R159, R162, R164: the plain stores change one word of RAM, SF and PC. -/
def Obligations.StoreResults : Prop :=
  (∀ s, ∃ m, exec .stAHL s = .next { s with pc := s.pc + 1, ram := m, sf := true } ∧
    WordStored s m (s.hr ++ s.lr) s.ac) ∧
  (∀ s x, ∃ m, exec (.stAX x) s = .next { s with pc := s.pc + 2, ram := m, sf := true } ∧ WordStored s m x s.ac) ∧
  (∀ s k y, ∃ m, exec (.stKY k y) s = .next { s with pc := s.pc + 2, ram := m, sf := true } ∧
    WordStored s m (0x0#4 ++ y) k) ∧
  Encodes [0x0F] .stAHL 1 ∧ (∀ x, Encodes [0x3F, x] (.stAX x) 2) ∧ (∀ k y, Encodes [0x2D, k ++ y] (.stKY k y) 2)

/-- R160, R161, R163: the stores that step L. The word at the old H.L is written; ZF and SF are those of the step: for the
increment SF = 0 exactly at LR = F, for the decrement exactly at LR = 0. -/
def Obligations.StoreAndStepResults : Prop :=
  (∀ s, ∃ m, exec .stAHLInc s = .next
      { s with pc := s.pc + 1, ram := m, lr := s.lr + 1, zf := decide (s.lr = 0xF), sf := decide (s.lr ≠ 0xF) } ∧
    WordStored s m (s.hr ++ s.lr) s.ac) ∧
  (∀ s, ∃ m, exec .stAHLDec s = .next
      { s with pc := s.pc + 1, ram := m, lr := s.lr - 1, zf := decide (s.lr = 1), sf := decide (s.lr ≠ 0) } ∧
    WordStored s m (s.hr ++ s.lr) s.ac) ∧
  (∀ s k, ∃ m, exec (.stKHLInc k) s = .next
      { s with pc := s.pc + 1, ram := m, lr := s.lr + 1, zf := decide (s.lr = 0xF), sf := decide (s.lr ≠ 0xF) } ∧
    WordStored s m (s.hr ++ s.lr) k) ∧
  Encodes [0x1A] .stAHLInc 1 ∧ Encodes [0x1B] .stAHLDec 1 ∧ (∀ k, Encodes [0xF#4 ++ k] (.stKHLInc k) 1)

/-- R165-R169: the register moves and exchanges; `XCH A, EIR` alone leaves ZF. -/
def Obligations.RegisterExchangeResults : Prop :=
  (∀ s, exec .movHA s = .next { s with pc := s.pc + 1, ac := s.hr, zf := decide (s.hr = 0), sf := true }) ∧
  (∀ s, exec .movLA s = .next { s with pc := s.pc + 1, ac := s.lr, zf := decide (s.lr = 0), sf := true }) ∧
  (∀ s, exec .xchAH s = .next { s with pc := s.pc + 1, ac := s.hr, hr := s.ac, zf := decide (s.hr = 0), sf := true }) ∧
  (∀ s, exec .xchAL s = .next { s with pc := s.pc + 1, ac := s.lr, lr := s.ac, zf := decide (s.lr = 0), sf := true }) ∧
  (∀ s, exec .xchAEIR s = .next { s with pc := s.pc + 1, ac := s.eir, eir := s.ac, sf := true }) ∧
  Encodes [0x10] .movHA 1 ∧ Encodes [0x11] .movLA 1 ∧ Encodes [0x30] .xchAH 2 ∧ Encodes [0x31] .xchAL 2 ∧
  Encodes [0x13] .xchAEIR 1

/-- R170-R172: the exchanges with memory. -/
def Obligations.MemoryExchangeResults : Prop :=
  (∀ s, ∃ m, exec .xchAHL s = .next
      { s with
        pc := s.pc + 1, ram := m, ac := memRead s (s.hr ++ s.lr), zf := decide (memRead s (s.hr ++ s.lr) = 0), sf := true } ∧
    WordStored s m (s.hr ++ s.lr) s.ac) ∧
  (∀ s x, ∃ m, exec (.xchAX x) s = .next
      { s with pc := s.pc + 2, ram := m, ac := memRead s x, zf := decide (memRead s x = 0), sf := true } ∧
    WordStored s m x s.ac) ∧
  (∀ s x, ∃ m, exec (.xchHLX x) s = .next
      { s with
        pc := s.pc + 2, ram := m, lr := memRead s (x &&& 0xFC), hr := memRead s ((x &&& 0xFC) + 1), sf := true } ∧
    memRead (s.setRam m) (x &&& 0xFC) = s.lr ∧ memRead (s.setRam m) ((x &&& 0xFC) + 1) = s.hr ∧
    OnlyWords s m [x &&& 0xFC, (x &&& 0xFC) + 1]) ∧
  Encodes [0x0D] .xchAHL 1 ∧ (∀ x, Encodes [0x3D, x] (.xchAX x) 2) ∧ (∀ x, Encodes [0x29, x] (.xchHLX x) 2)

/-! ## Compare instructions -/

/-- R180-R186: the compares change flags only. CF is set when the first operand is not above the second (four forms),
SF when they differ: both are D13, the spec's own choice (log 16). -/
def Obligations.CompareResults : Prop :=
  (∀ s, exec .cmprAHL s = .next
    { s with
      pc := s.pc + 1
      cf := decide (s.ac.toNat ≤ (memRead s (s.hr ++ s.lr)).toNat)
      zf := decide (s.ac = memRead s (s.hr ++ s.lr))
      sf := decide (s.ac ≠ memRead s (s.hr ++ s.lr)) }) ∧
  (∀ s x, exec (.cmprAX x) s = .next
    { s with
      pc := s.pc + 2
      cf := decide (s.ac.toNat ≤ (memRead s x).toNat)
      zf := decide (s.ac = memRead s x)
      sf := decide (s.ac ≠ memRead s x) }) ∧
  (∀ s k, exec (.cmprAK k) s = .next
    { s with pc := s.pc + 1, cf := decide (s.ac.toNat ≤ k.toNat), zf := decide (s.ac = k), sf := decide (s.ac ≠ k) }) ∧
  (∀ s k, exec (.cmprHK k) s = .next { s with pc := s.pc + 2, zf := decide (s.hr = k), sf := decide (s.hr ≠ k) }) ∧
  (∀ s k, exec (.cmprLK k) s = .next { s with pc := s.pc + 2, zf := decide (s.lr = k), sf := decide (s.lr ≠ k) }) ∧
  (∀ s y k, exec (.cmprYK y k) s = .next
    { s with
      pc := s.pc + 2
      cf := decide ((memRead s (0x0#4 ++ y)).toNat ≤ k.toNat)
      zf := decide (memRead s (0x0#4 ++ y) = k)
      sf := decide (memRead s (0x0#4 ++ y) ≠ k) }) ∧
  Encodes [0x16] .cmprAHL 1 ∧ (∀ x, Encodes [0x3E, x] (.cmprAX x) 2) ∧ (∀ k, Encodes [0xD#4 ++ k] (.cmprAK k) 1) ∧
  (∀ k, Encodes [0x38, 0xD#4 ++ k] (.cmprHK k) 2) ∧ (∀ k, Encodes [0x38, 0x9#4 ++ k] (.cmprLK k) 2) ∧
  (∀ y k, Encodes [0x2E, k ++ y] (.cmprYK y k) 2)

/-! ## Arithmetic instructions -/

/-- R197-R201: the additions to a register, as sums of natural numbers; only `ADDC` reads and writes CF. -/
def Obligations.AddRegisterResults : Prop :=
  (∀ s sum, sum = s.ac.toNat + (memRead s (s.hr ++ s.lr)).toNat + s.cf.toNat → exec .addcAHL s = .next
    { s with
      pc := s.pc + 1, ac := BitVec.ofNat 4 sum, cf := decide (16 ≤ sum), zf := decide (sum % 16 = 0),
      sf := decide (sum < 16) }) ∧
  (∀ s sum, sum = s.ac.toNat + (memRead s (s.hr ++ s.lr)).toNat → exec .addAHL s = .next
    { s with pc := s.pc + 1, ac := BitVec.ofNat 4 sum, zf := decide (sum % 16 = 0), sf := decide (sum < 16) }) ∧
  (∀ s k sum, sum = s.ac.toNat + k.toNat → exec (.addAK k) s = .next
    { s with pc := s.pc + 2, ac := BitVec.ofNat 4 sum, zf := decide (sum % 16 = 0), sf := decide (sum < 16) }) ∧
  (∀ s k sum, sum = s.hr.toNat + k.toNat → exec (.addHK k) s = .next
    { s with pc := s.pc + 2, hr := BitVec.ofNat 4 sum, zf := decide (sum % 16 = 0), sf := decide (sum < 16) }) ∧
  (∀ s k sum, sum = s.lr.toNat + k.toNat → exec (.addLK k) s = .next
    { s with pc := s.pc + 2, lr := BitVec.ofNat 4 sum, zf := decide (sum % 16 = 0), sf := decide (sum < 16) }) ∧
  Encodes [0x15] .addcAHL 1 ∧ Encodes [0x17] .addAHL 1 ∧ (∀ k, Encodes [0x38, 0x0#4 ++ k] (.addAK k) 2) ∧
  (∀ k, Encodes [0x38, 0xC#4 ++ k] (.addHK k) 2) ∧ (∀ k, Encodes [0x38, 0x8#4 ++ k] (.addLK k) 2)

/-- R193, R196, R202, R203, R206: the additions and subtractions into a word of memory, as sums of natural numbers and
differences of integers. -/
def Obligations.ArithmeticMemoryResults : Prop :=
  (∀ s sum, sum = (memRead s (s.hr ++ s.lr)).toNat + 1 → ∃ m, exec .incHL s = .next
      { s with pc := s.pc + 1, ram := m, zf := decide (sum % 16 = 0), sf := decide (sum < 16) } ∧
    WordStored s m (s.hr ++ s.lr) (BitVec.ofNat 4 sum)) ∧
  (∀ s k sum, sum = (memRead s (s.hr ++ s.lr)).toNat + k.toNat → ∃ m, exec (.addHLK k) s = .next
      { s with pc := s.pc + 2, ram := m, zf := decide (sum % 16 = 0), sf := decide (sum < 16) } ∧
    WordStored s m (s.hr ++ s.lr) (BitVec.ofNat 4 sum)) ∧
  (∀ s y k sum, sum = (memRead s (0x0#4 ++ y)).toNat + k.toNat → ∃ m, exec (.addYK y k) s = .next
      { s with pc := s.pc + 2, ram := m, zf := decide (sum % 16 = 0), sf := decide (sum < 16) } ∧
    WordStored s m (0x0#4 ++ y) (BitVec.ofNat 4 sum)) ∧
  Encodes [0x0A] .incHL 1 ∧ (∀ k, Encodes [0x38, 0x4#4 ++ k] (.addHLK k) 2) ∧
  (∀ y k, Encodes [0x2F, k ++ y] (.addYK y k) 2) ∧
  (∀ (s : State) (d : Int), d = (memRead s (s.hr ++ s.lr)).toNat - 1 → ∃ m, exec .decHL s = .next
      { s with pc := s.pc + 1, ram := m, zf := decide (d % 16 = 0), sf := decide (0 ≤ d) } ∧
    WordStored s m (s.hr ++ s.lr) (BitVec.ofInt 4 d)) ∧
  (∀ (s : State) (k : Nibble) (d : Int), d = k.toNat - (memRead s (s.hr ++ s.lr)).toNat → ∃ m,
    exec (.subrHLK k) s = .next
      { s with pc := s.pc + 2, ram := m, zf := decide (d % 16 = 0), sf := decide (0 ≤ d) } ∧
    WordStored s m (s.hr ++ s.lr) (BitVec.ofInt 4 d)) ∧
  Encodes [0x0B] .decHL 1 ∧ (∀ k, Encodes [0x38, 0x5#4 ++ k] (.subrHLK k) 2)

/-- R194, R195, R204, R205: the subtractions into a register, as differences of integers; only `SUBRC` reads and writes
CF, whose inverse is the borrow in and out. -/
def Obligations.SubtractRegisterResults : Prop :=
  (∀ s, exec .decA s = .next
    { s with pc := s.pc + 1, ac := s.ac - 1, zf := decide (s.ac = 1), sf := decide (s.ac ≠ 0) }) ∧
  (∀ s, exec .decL s = .next
    { s with pc := s.pc + 1, lr := s.lr - 1, zf := decide (s.lr = 1), sf := decide (s.lr ≠ 0) }) ∧
  (∀ (s : State) (d : Int), d = (memRead s (s.hr ++ s.lr)).toNat - s.ac.toNat - (!s.cf).toNat →
    exec .subrcAHL s = .next
      { s with
        pc := s.pc + 1, ac := BitVec.ofInt 4 d, cf := decide (0 ≤ d), zf := decide (d % 16 = 0), sf := decide (0 ≤ d) }) ∧
  (∀ (s : State) (k : Nibble) (d : Int), d = k.toNat - s.ac.toNat → exec (.subrAK k) s = .next
    { s with pc := s.pc + 2, ac := BitVec.ofInt 4 d, zf := decide (d % 16 = 0), sf := decide (0 ≤ d) }) ∧
  Encodes [0x09] .decA 1 ∧ Encodes [0x19] .decL 1 ∧ Encodes [0x14] .subrcAHL 1 ∧
  (∀ k, Encodes [0x38, 0x1#4 ++ k] (.subrAK k) 2)

/-! ## Logical instructions -/

/-- R216, R217: the rotates turn the ring CF, AC3 … AC0 by one place (the ring is the spec's inference). R191, R192: the
register increments; SF = 0 on the wrap is D22, the spec's own choice (log 17). -/
def Obligations.RotateAndIncrementResults : Prop :=
  (∀ s, ∃ v : Nibble, exec .rolcA s = .next
      { s with pc := s.pc + 1, ac := v, cf := s.ac.getLsbD 3, zf := decide (v = 0), sf := !s.ac.getLsbD 3 } ∧
    v.toNat = (2 * s.ac.toNat + s.cf.toNat) % 16) ∧
  (∀ s, ∃ v : Nibble, exec .rorcA s = .next
      { s with pc := s.pc + 1, ac := v, cf := s.ac.getLsbD 0, zf := decide (v = 0), sf := !s.ac.getLsbD 0 } ∧
    v.toNat = s.ac.toNat / 2 + 8 * s.cf.toNat) ∧
  (∀ s, exec .incA s = .next
    { s with pc := s.pc + 1, ac := s.ac + 1, zf := decide (s.ac = 0xF), sf := decide (s.ac ≠ 0xF) }) ∧
  (∀ s, exec .incL s = .next
    { s with pc := s.pc + 1, lr := s.lr + 1, zf := decide (s.lr = 0xF), sf := decide (s.lr ≠ 0xF) }) ∧
  Encodes [0x05] .rolcA 1 ∧ Encodes [0x07] .rorcA 1 ∧ Encodes [0x08] .incA 1 ∧ Encodes [0x18] .incL 1

/-- R218-R224: the bitwise operations into the accumulator or a word of memory: ZF = Z, SF = not Z, CF unchanged. -/
def Obligations.LogicResults : Prop :=
  (∀ s v, v = s.ac &&& memRead s (s.hr ++ s.lr) →
    exec .andAHL s = .next { s with pc := s.pc + 1, ac := v, zf := decide (v = 0), sf := decide (v ≠ 0) }) ∧
  (∀ s k v, v = s.ac &&& k →
    exec (.andAK k) s = .next { s with pc := s.pc + 2, ac := v, zf := decide (v = 0), sf := decide (v ≠ 0) }) ∧
  (∀ s v, v = s.ac ||| memRead s (s.hr ++ s.lr) →
    exec .orAHL s = .next { s with pc := s.pc + 1, ac := v, zf := decide (v = 0), sf := decide (v ≠ 0) }) ∧
  (∀ s k v, v = s.ac ||| k →
    exec (.orAK k) s = .next { s with pc := s.pc + 2, ac := v, zf := decide (v = 0), sf := decide (v ≠ 0) }) ∧
  (∀ s v, v = s.ac ^^^ memRead s (s.hr ++ s.lr) →
    exec .xorAHL s = .next { s with pc := s.pc + 1, ac := v, zf := decide (v = 0), sf := decide (v ≠ 0) }) ∧
  Encodes [0x1E] .andAHL 1 ∧ (∀ k, Encodes [0x38, 0x3#4 ++ k] (.andAK k) 2) ∧ Encodes [0x1D] .orAHL 1 ∧
  (∀ k, Encodes [0x38, 0x2#4 ++ k] (.orAK k) 2) ∧ Encodes [0x1F] .xorAHL 1 ∧
  (∀ s k v, v = memRead s (s.hr ++ s.lr) &&& k → ∃ m,
    exec (.andHLK k) s = .next { s with pc := s.pc + 2, ram := m, zf := decide (v = 0), sf := decide (v ≠ 0) } ∧
    WordStored s m (s.hr ++ s.lr) v) ∧
  (∀ s k v, v = memRead s (s.hr ++ s.lr) ||| k → ∃ m,
    exec (.orHLK k) s = .next { s with pc := s.pc + 2, ram := m, zf := decide (v = 0), sf := decide (v ≠ 0) } ∧
    WordStored s m (s.hr ++ s.lr) v) ∧
  (∀ k, Encodes [0x38, 0x7#4 ++ k] (.andHLK k) 2) ∧ (∀ k, Encodes [0x38, 0x6#4 ++ k] (.orHLK k) 2)

/-! ## Bit manipulation instructions -/

/-- R231-R234, R237-R240, R242, R247: the tests of flags and data bits (`TEST` puts the inverse of the bit in SF, `TESTP`
the bit), and the set and clear of GF. -/
def Obligations.FlagAndDataBitTestResults : Prop :=
  (∀ s, exec .testCF s = .next { s with pc := s.pc + 1, sf := !s.cf, cf := false }) ∧
  (∀ s, exec .testpCF s = .next { s with pc := s.pc + 1, sf := s.cf, cf := true }) ∧
  (∀ s, exec .testpZF s = .next { s with pc := s.pc + 1, sf := s.zf }) ∧
  (∀ s, exec .testpGF s = .next { s with pc := s.pc + 1, sf := s.gf }) ∧
  (∀ s, exec .setGF s = .next { s with pc := s.pc + 1, gf := true, sf := true }) ∧
  (∀ s, exec .clrGF s = .next { s with pc := s.pc + 1, gf := false, sf := true }) ∧
  Encodes [0x06] .testCF 1 ∧ Encodes [0x04] .testpCF 1 ∧ Encodes [0x0E] .testpZF 1 ∧ Encodes [0x01] .testpGF 1 ∧
  Encodes [0x03] .setGF 1 ∧ Encodes [0x02] .clrGF 1 ∧
  (∀ s b, exec (.testAB b) s = .next { s with pc := s.pc + 1, sf := !s.ac.getLsbD b.toNat }) ∧
  (∀ s b, exec (.testHLB b) s = .next
    { s with pc := s.pc + 1, sf := !(memRead s (s.hr ++ s.lr)).getLsbD b.toNat }) ∧
  (∀ s y b, exec (.testYB y b) s = .next
    { s with pc := s.pc + 2, sf := !(memRead s (0x0#4 ++ y)).getLsbD b.toNat }) ∧
  (∀ s y b, exec (.testpYB y b) s = .next
    { s with pc := s.pc + 2, sf := (memRead s (0x0#4 ++ y)).getLsbD b.toNat }) ∧
  (∀ b, Encodes [0b010111#6 ++ b] (.testAB b) 1) ∧ (∀ b, Encodes [0b010110#6 ++ b] (.testHLB b) 1) ∧
  (∀ y b, Encodes [0x39, 0b10#2 ++ b ++ y] (.testYB y b) 2) ∧
  (∀ y b, Encodes [0x39, 0b11#2 ++ b ++ y] (.testpYB y b) 2)

/-- R243, R244, R248, R249: `SET` and `CLR` change one bit of one word of memory, SF and PC. -/
def Obligations.DataBitChangeResults : Prop :=
  (∀ s b, ∃ m v, exec (.setHLB b) s = .next { s with pc := s.pc + 1, ram := m, sf := true } ∧
    WordStored s m (s.hr ++ s.lr) v ∧
    ∀ c < 4, v.getLsbD c = (decide (c = b.toNat) || (memRead s (s.hr ++ s.lr)).getLsbD c)) ∧
  (∀ s y b, ∃ m v, exec (.setYB y b) s = .next { s with pc := s.pc + 2, ram := m, sf := true } ∧
    WordStored s m (0x0#4 ++ y) v ∧
    ∀ c < 4, v.getLsbD c = (decide (c = b.toNat) || (memRead s (0x0#4 ++ y)).getLsbD c)) ∧
  (∀ s b, ∃ m v, exec (.clrHLB b) s = .next { s with pc := s.pc + 1, ram := m, sf := true } ∧
    WordStored s m (s.hr ++ s.lr) v ∧
    ∀ c < 4, v.getLsbD c = (!decide (c = b.toNat) && (memRead s (s.hr ++ s.lr)).getLsbD c)) ∧
  (∀ s y b, ∃ m v, exec (.clrYB y b) s = .next { s with pc := s.pc + 2, ram := m, sf := true } ∧
    WordStored s m (0x0#4 ++ y) v ∧
    ∀ c < 4, v.getLsbD c = (!decide (c = b.toNat) && (memRead s (0x0#4 ++ y)).getLsbD c)) ∧
  (∀ b, Encodes [0b010100#6 ++ b] (.setHLB b) 1) ∧ (∀ y b, Encodes [0x39, 0b00#2 ++ b ++ y] (.setYB y b) 2) ∧
  (∀ b, Encodes [0b010101#6 ++ b] (.clrHLB b) 1) ∧ (∀ y b, Encodes [0x39, 0b01#2 ++ b ++ y] (.clrYB y b) 2)

/-- R235, R236, R241: the port tests, at every port the instruction may name. Pin levels are those of R84 (D19, log 25);
bits 1 and 0 of port E are whatever `u` is (U4). -/
def Obligations.PortBitTestResults : Prop :=
  (∀ p ∈ [0x0#4, 0x1#4, 0x2#4, 0x4#4, 0x5#4, 0x6#4, 0x7#4, 0x8#4, 0x9#4, 0xE#4], ∀ s b,
    (∃ u, exec (.testPB p b) s = .next
      { afterRead s p with pc := s.pc + 2, sf := !(portValue s p u).getLsbD b.toNat }) ∧
    (∃ u, exec (.testpPB p b) s = .next
      { afterRead s p with pc := s.pc + 2, sf := (portValue s p u).getLsbD b.toNat })) ∧
  (∀ s, exec .testL s = .next
    { s with
      pc := s.pc + 1
      sf := !(portValue s (0b01#2 ++ s.lr.extractLsb' 2 2) 0).getLsbD (s.lr.toNat % 4) }) ∧
  (∀ p b, Encodes [0x3B, 0b10#2 ++ b ++ p] (.testPB p b) 2) ∧
  (∀ p b, Encodes [0x3B, 0b11#2 ++ b ++ p] (.testpPB p b) 2) ∧ Encodes [0x37] .testL 2

/-- R245, R250: `SET %p, b` and `CLR %p, b` change one bit of the port's latch, read from the latch and not the pin (R87);
the bit 3 of port 9 does not exist and nothing changes there. -/
def Obligations.PortBitChangeResults : Prop :=
  (∀ p ∈ [0x1#4, 0x2#4, 0x4#4, 0x5#4, 0x6#4, 0x7#4, 0x8#4, 0x9#4], ∀ s b,
    (∃ v, exec (.setPB p b) s = .next { s with pc := s.pc + 2, ports := withLatch s.ports p v, sf := true } ∧
      ∀ c < 4, v.getLsbD c = (decide (c = b.toNat) || (latchOf s.ports p).getLsbD c)) ∧
    (∃ v, exec (.clrPB p b) s = .next { s with pc := s.pc + 2, ports := withLatch s.ports p v, sf := true } ∧
      ∀ c < 4, v.getLsbD c = (!decide (c = b.toNat) && (latchOf s.ports p).getLsbD c))) ∧
  (∀ p b, Encodes [0x3B, 0b00#2 ++ b ++ p] (.setPB p b) 2) ∧ (∀ p b, Encodes [0x3B, 0b01#2 ++ b ++ p] (.clrPB p b) 2)

/-- R246, R251, R255: `SET @L` and `CLR @L` change the latch bit L selects, port 4 + LR[3:2], bit LR[1:0]. -/
def Obligations.SelectedPinChangeResults : Prop :=
  (∀ s (p : Nibble), p = 0b01#2 ++ s.lr.extractLsb' 2 2 →
    ∃ v, exec .setL s = .next { s with pc := s.pc + 1, ports := withLatch s.ports p v, sf := true } ∧
      ∀ c < 4, v.getLsbD c = (decide (c = s.lr.toNat % 4) || (latchOf s.ports p).getLsbD c)) ∧
  (∀ s (p : Nibble), p = 0b01#2 ++ s.lr.extractLsb' 2 2 →
    ∃ v, exec .clrL s = .next { s with pc := s.pc + 1, ports := withLatch s.ports p v, sf := true } ∧
      ∀ c < 4, v.getLsbD c = (!decide (c = s.lr.toNat % 4) && (latchOf s.ports p).getLsbD c)) ∧
  Encodes [0x34] .setL 2 ∧ Encodes [0x35] .clrL 2

/-- R252-R254: latch j is reset exactly where bit j of `r` is 0; `EICLR` sets EIF, `DICLR` resets it, `CLR IL` leaves it. -/
def Obligations.InterruptLatchResults : Prop :=
  ∀ s r, ∃ l : BitVec 6, (∀ j < 6, l.getLsbD j = (s.intl.getLsbD j && r.getLsbD j)) ∧
    exec (.clrIL r) s = .next { s with pc := s.pc + 2, intl := l, sf := true } ∧
    exec (.eiclrIL r) s = .next { s with pc := s.pc + 2, intl := l, eif := true, sf := true } ∧
    exec (.diclrIL r) s = .next { s with pc := s.pc + 2, intl := l, eif := false, sf := true } ∧
    Encodes [0x36, 0b11#2 ++ r] (.clrIL r) 2 ∧ Encodes [0x36, 0b01#2 ++ r] (.eiclrIL r) 2 ∧
    Encodes [0x36, 0b10#2 ++ r] (.diclrIL r) 2

/-! ## Input/output instructions -/

/-- R266, R267: the inputs, at every port they may name. Pin levels are those of R84 (D19, log 25); the buffer read is
that of R378, the same in every mode (log 33); bits 1 and 0 of port E are whatever `u` is (U4, log 11). -/
def Obligations.InputResults : Prop :=
  (∀ p ∈ [0x0#4, 0x1#4, 0x2#4, 0x4#4, 0x5#4, 0x6#4, 0x7#4, 0x8#4, 0x9#4, 0xE#4, 0xF#4], ∀ s,
    (∃ u, exec (.inPA p) s = .next
      { afterRead s p with
        pc := s.pc + 2
        ac := portValue s p u
        zf := decide (portValue s p u = 0)
        sf := decide (portValue s p u ≠ 0) }) ∧
    (∃ u m, exec (.inPHL p) s = .next
      { afterRead s p with pc := s.pc + 2, ram := m, sf := decide (portValue s p u ≠ 0) } ∧
      WordStored s m (s.hr ++ s.lr) (portValue s p u))) ∧
  (∀ p, Encodes [0x3A, 0x2#4 ++ p] (.inPA p) 2) ∧ (∀ p, Encodes [0x3A, 0x6#4 ++ p] (.inPHL p) 2)

/-- R268-R270, R86, R127: the outputs to a port latch; port 9 keeps the low three bits. The 5-bit port of `OUT A` and
`OUT @HL` is bit 5, then bits 3 to 0 of the second byte. -/
def Obligations.OutputLatchResults : Prop :=
  (∀ p ∈ [0x1#4, 0x2#4, 0x4#4, 0x5#4, 0x6#4, 0x7#4, 0x8#4, 0x9#4], ∀ s,
    exec (.outAP (0#1 ++ p)) s = .next { s with pc := s.pc + 2, ports := withLatch s.ports p s.ac, sf := true } ∧
    exec (.outHLP (0#1 ++ p)) s = .next
      { s with pc := s.pc + 2, ports := withLatch s.ports p (memRead s (s.hr ++ s.lr)), sf := true } ∧
    ∀ k, exec (.outKP k p) s = .next { s with pc := s.pc + 2, ports := withLatch s.ports p k, sf := true }) ∧
  (∀ (p4 : BitVec 1) (p : Nibble), Encodes [0x3A, 0b10#2 ++ p4 ++ 0#1 ++ p] (.outAP (p4 ++ p)) 2) ∧
  (∀ (p4 : BitVec 1) (p : Nibble), Encodes [0x3A, 0b11#2 ++ p4 ++ 0#1 ++ p] (.outHLP (p4 ++ p)) 2) ∧
  (∀ k p, Encodes [0x2C, k ++ p] (.outKP k p) 2)

/-- R47, R268, R269: the outputs to the command registers of the divider interrupt and the timer/counters. -/
def Obligations.OutputCommandResults : Prop :=
  (∀ s, exec (.outAP 0x19) s = .next
    { s with pc := s.pc + 2, cmds := { s.cmds with cmd19 := s.ac }, sf := true }) ∧
  (∀ s, exec (.outAP 0x1C) s = .next
    { s with pc := s.pc + 2, cmds := { s.cmds with cmd1C := s.ac }, sf := true }) ∧
  (∀ s, exec (.outAP 0x1D) s = .next
    { s with pc := s.pc + 2, cmds := { s.cmds with cmd1D := s.ac }, sf := true }) ∧
  (∀ s, exec (.outHLP 0x19) s = .next
    { s with pc := s.pc + 2, cmds := { s.cmds with cmd19 := memRead s (s.hr ++ s.lr) }, sf := true }) ∧
  (∀ s, exec (.outHLP 0x1C) s = .next
    { s with pc := s.pc + 2, cmds := { s.cmds with cmd1C := memRead s (s.hr ++ s.lr) }, sf := true }) ∧
  (∀ s, exec (.outHLP 0x1D) s = .next
    { s with pc := s.pc + 2, cmds := { s.cmds with cmd1D := memRead s (s.hr ++ s.lr) }, sf := true }) ∧
  Encodes [0x3A, 0xA9] (.outAP 0x19) 2 ∧ Encodes [0x3A, 0xAC] (.outAP 0x1C) 2 ∧ Encodes [0x3A, 0xAD] (.outAP 0x1D) 2 ∧
  Encodes [0x3A, 0xE9] (.outHLP 0x19) 2 ∧ Encodes [0x3A, 0xEC] (.outHLP 0x1C) 2 ∧ Encodes [0x3A, 0xED] (.outHLP 0x1D) 2

/-- R375: the outputs to the serial buffer. Outside transmit mode nothing but SF and PC changes (D30, log 33). -/
def Obligations.OutputSerialBufferResults : Prop :=
  (∀ s v i, (i = .outAP 0x0F ∧ v = s.ac) ∨ (i = .outHLP 0x0F ∧ v = memRead s (s.hr ++ s.lr)) ∨ i = .outKP v 0xF →
    exec i s = .next
      { s with
        pc := s.pc + 2
        sf := true
        sio :=
          if transmitSelected s then { s.sio with sb := v, sbFull := true, req := false, waiting := false }
          else s.sio }) ∧
  Encodes [0x3A, 0x8F] (.outAP 0x0F) 2 ∧ Encodes [0x3A, 0xCF] (.outHLP 0x0F) 2 ∧ (∀ v, Encodes [0x2C, v ++ 0xF#4] (.outKP v 0xF) 2)

/-- R371, R376, R377, R379, R382: the outputs to the serial command register that the spec does not refuse; `p` are the
serial registers as the write leaves them (log 32: mode 00 makes the port idle). The first clause is a write that changes
no mode bit of a busy port, the second one that does: then the registers U8 names hold any value and INTL4 may be set,
the others are still those of `p` (log 12). -/
def Obligations.OutputSerialCommandResults : Prop :=
  (∀ s v i p, (i = .outAP 0x1F ∧ v = s.ac) ∨ (i = .outHLP 0x1F ∧ v = memRead s (s.hr ++ s.lr)) →
    ¬(v.getLsbD 3 = true ∧ v.extractLsb' 1 2 = 0b00#2) →
    (p =
      if v.getLsbD 3 && !s.cmds.cmd1F.getLsbD 3 then
        { s.sio with siof := true, nb := 0, waiting := false, unspec := false }
      else if v.extractLsb' 1 2 = 0b00#2 then { s.sio with siof := false, sef := false, waiting := false }
      else if !v.getLsbD 3 && transmitSelected s && s.sio.nb == 0 then { s.sio with siof := false, waiting := false }
      else s.sio) →
    ((v.extractLsb' 0 3 = s.cmds.cmd1F.extractLsb' 0 3 ∨
        (s.sio.siof = false ∧ s.sio.sbFull = false ∧ s.sio.srFull = false)) →
      exec i s = .next { s with pc := s.pc + 2, sf := true, cmds := { s.cmds with cmd1F := v }, sio := p }) ∧
    (v.extractLsb' 0 3 ≠ s.cmds.cmd1F.extractLsb' 0 3 →
      s.sio.siof = true ∨ s.sio.sbFull = true ∨ s.sio.srFull = true →
      ∃ q l n, exec i s = .next
          { s with pc := s.pc + 2, sf := true, cmds := { s.cmds with cmd1F := v }, sio := q, intl := l, freeCount := n } ∧
        q.siof = p.siof ∧ q.sef = p.sef ∧ q.waiting = p.waiting ∧ q.sckOut = s.sio.sckOut ∧ q.unspec = true ∧
        ∀ j < 6, l.getLsbD j = (s.intl.getLsbD j || (decide (j = 4) && !s.sio.req && q.req)))) ∧
  Encodes [0x3A, 0xAF] (.outAP 0x1F) 2 ∧ Encodes [0x3A, 0xEF] (.outHLP 0x1F) 2

/-- R271: `OUTB @HL` sends the table byte at FE0 + 16 CF + M[HL] to P2 (high nibble) and P1 (low nibble). -/
def Obligations.OutputTableResults : Prop :=
  (∀ s (a : RomAddr), a.toNat = 0xFE0 + 16 * s.cf.toNat + (memRead s (s.hr ++ s.lr)).toNat →
    exec .outbHL s = .next
      { s with
        pc := s.pc + 1
        ports := { s.ports with p2 := (romRead s a).extractLsb' 4 4, p1 := (romRead s a).extractLsb' 0 4 }
        sf := true }) ∧
  Encodes [0x12] .outbHL 2

/-! ## Branch, subroutine and other instructions -/

/-- R285, R287, R288, R293: the branches go to their target exactly when SF = 1 and leave SF = 1; `BSS` keeps the page of
the next instruction; `NOP` changes PC only. -/
def Obligations.BranchAndNopResults : Prop :=
  (∀ s a, exec (.bs a) s = .next { s with pc := if s.sf then a else s.pc + 2, sf := true }) ∧
  (∀ s d, exec (.bss d) s = .next
    { s with pc := if s.sf then (s.pc + 1).extractLsb' 6 6 ++ d else s.pc + 1, sf := true }) ∧
  (∀ s, exec .nop s = .next { s with pc := s.pc + 1 }) ∧
  (∀ a, Encodes [0x6#4 ++ a.extractLsb' 8 4, a.extractLsb' 0 8] (.bs a) 2) ∧
  (∀ d, Encodes [0b10#2 ++ d] (.bss d) 1) ∧ Encodes [0x00] .nop 1

/-- R289, R290, R294: at a stack level other than F a call saves the address of the next instruction in words 0 to 2 of
the level at C0 + 4 SPW, leaves any value in word 3 (U9), decrements SPW and goes to its target; no flag changes. The
layout is D3 and D4, the flags D12, the fourth word D5, the spec's own choices (log 10, 13, 18). -/
def Obligations.CallResults : Prop :=
  (∀ s i (n : RomAddr) target,
    spw s ≠ 0xF →
    (∃ a, i = .call a ∧ n = s.pc + 2 ∧ target.toNat = a.toNat) ∨
      (∃ k, i = .calls k ∧ n = s.pc + 1 ∧ target.toNat = if k = 0 then 0x086 else 8 * k.toNat + 6) →
    ∃ m f, exec i s = .next { s with pc := target, ram := m, freeCount := f } ∧
      (stackAddr (spw s)).toNat = 0xC0 + 4 * (spw s).toNat ∧
      memRead (s.setRam m) (stackAddr (spw s)) = n.extractLsb' 0 4 ∧
      memRead (s.setRam m) (stackAddr (spw s) + 1) = n.extractLsb' 4 4 ∧
      memRead (s.setRam m) (stackAddr (spw s) + 2) = n.extractLsb' 8 4 ∧
      memRead (s.setRam m) 0xFF = spw s - 1 ∧
      OnlyWords s m
        [stackAddr (spw s), stackAddr (spw s) + 1, stackAddr (spw s) + 2, stackAddr (spw s) + 3, 0xFF]) ∧
  (∀ a, Encodes [0b00100#5 ++ a.extractLsb' 8 3, a.extractLsb' 0 8] (.call a) 2) ∧
  (∀ k, Encodes [0x7#4 ++ k] (.calls k) 2)

/-- R291, R292, R294: a return increments SPW and takes PC from the level it then names, `RETI` also the four flags from
the level's word 3 and EIF = 1. The layout is D3, D4 and D7, the flags of `RET` D12, the spec's own choices (log 13, 15, 18,
34). -/
def Obligations.ReturnResults : Prop :=
  (∀ s base, spw s ≠ 0xE → base = stackAddr (spw s + 1) →
    (∃ m, exec .ret s = .next
        { s with pc := memRead s (base + 2) ++ memRead s (base + 1) ++ memRead s base, ram := m } ∧
      WordStored s m 0xFF (spw s + 1)) ∧
    (∃ m, exec .reti s = .next
        { s with
          pc := memRead s (base + 2) ++ memRead s (base + 1) ++ memRead s base
          ram := m
          cf := (memRead s (base + 3)).getLsbD 3
          zf := (memRead s (base + 3)).getLsbD 2
          sf := (memRead s (base + 3)).getLsbD 1
          gf := (memRead s (base + 3)).getLsbD 0
          eif := true } ∧
      WordStored s m 0xFF (spw s + 1))) ∧
  Encodes [0x2A] .ret 2 ∧ Encodes [0x2B] .reti 2

/-- R291, R294: a call and the return right after it come back to the instruction after the call, with SPW as it was. That
neither changes a flag is R286, D12, the spec's own choice (log 18). -/
def Obligations.ReturnUndoesCall : Prop :=
  ∀ s t i, (∃ a, i = .call a) ∨ (∃ k, i = .calls k) → exec i s = .next t →
    ∃ u, exec .ret t = .next u ∧ u.pc = s.pc + BitVec.ofNat 12 (instrLength i) ∧ spw u = spw s ∧
      u.sf = s.sf ∧ u.cf = s.cf ∧ u.zf = s.zf ∧ u.gf = s.gf

/-! ## Where the model stops -/

/-- R39, R294, U6: a call at stack level F and a return that would read level F are refused (D11, log 21). -/
def Obligations.StackLevelFStops : Prop :=
  (∀ s, spw s = 0xF → (∀ a, exec (.call a) s = .refused .stackLevelF) ∧ ∀ k, exec (.calls k) s = .refused .stackLevelF) ∧
  (∀ s, spw s = 0xE → exec .ret s = .refused .stackLevelF ∧ exec .reti s = .refused .stackLevelF)

/-- R80, R82, R83, U3: an instruction is refused at every port its column does not allow (D9, D28, log 20), `OUT` at port
11 under a name of its own; R371, U7: so is the output that would enable the serial port in mode 00 (log 22). -/
def Obligations.PortStops : Prop :=
  (∀ p ∈ [0x3#4, 0xA#4, 0xB#4, 0xC#4, 0xD#4], ∀ s,
    exec (.inPA p) s = .refused (.portNotAllowed (0#1 ++ p)) ∧ exec (.inPHL p) s = .refused (.portNotAllowed (0#1 ++ p))) ∧
  (∀ p ∈ [0x3#4, 0xA#4, 0xB#4, 0xC#4, 0xD#4, 0xF#4], ∀ s b,
    exec (.testPB p b) s = .refused (.portNotAllowed (0#1 ++ p)) ∧
      exec (.testpPB p b) s = .refused (.portNotAllowed (0#1 ++ p))) ∧
  (∀ p ∈ [0x0#4, 0x3#4, 0xA#4, 0xB#4, 0xC#4, 0xD#4, 0xE#4, 0xF#4], ∀ s b,
    exec (.setPB p b) s = .refused (.portNotAllowed (0#1 ++ p)) ∧
      exec (.clrPB p b) s = .refused (.portNotAllowed (0#1 ++ p))) ∧
  (∀ p ∈ [0x0#4, 0x3#4, 0xA#4, 0xB#4, 0xC#4, 0xD#4, 0xE#4], ∀ s k,
    exec (.outKP k p) s = .refused (.portNotAllowed (0#1 ++ p))) ∧
  (∀ p ∈ [0x00#5, 0x03#5, 0x0A#5, 0x0B#5, 0x0C#5, 0x0D#5, 0x0E#5, 0x10#5, 0x12#5, 0x13#5, 0x14#5, 0x15#5, 0x16#5,
      0x17#5, 0x18#5, 0x1A#5, 0x1B#5, 0x1E#5], ∀ s,
    exec (.outAP p) s = .refused (.portNotAllowed p) ∧ exec (.outHLP p) s = .refused (.portNotAllowed p)) ∧
  (∀ s, exec (.outAP 0x11) s = .refused .op11ByOut ∧ exec (.outHLP 0x11) s = .refused .op11ByOut) ∧
  (∀ s, s.ac = 0x8 ∨ s.ac = 0x9 → exec (.outAP 0x1F) s = .refused .serialModeUnusable) ∧
  (∀ s, memRead s (s.hr ++ s.lr) = 0x8 ∨ memRead s (s.hr ++ s.lr) = 0x9 →
    exec (.outHLP 0x1F) s = .refused .serialModeUnusable)

/-- R300, R141: those are all the stops of the instructions: a well-formed instruction that is no call or return at the
forbidden stack level and no output of 8 or 9 to port 1F has a next state. -/
def Obligations.OtherwiseExecCompletes : Prop :=
  ∀ i s, i.wellFormed = true →
    ((∃ a, i = .call a) ∨ (∃ k, i = .calls k) → spw s ≠ 0xF) →
    (i = .ret ∨ i = .reti → spw s ≠ 0xE) →
    (i = .outAP 0x1F → s.ac ≠ 0x8 ∧ s.ac ≠ 0x9) →
    (i = .outHLP 0x1F → memRead s (s.hr ++ s.lr) ≠ 0x8 ∧ memRead s (s.hr ++ s.lr) ≠ 0x9) →
    ∃ t, exec i s = .next t

/-! ## Encoding -/

/-- R111-R131: decoding the encoding of any instruction, followed by any bytes, gives it back with those bytes left. -/
def Obligations.DecodeEncodeRoundTrip : Prop :=
  ∀ i rest, decode (encode i ++ rest) = .ok (i, rest)

/-- R140: no bit of an encoding is a don't-care: the bytes decoding consumes are the encoding of what it answers. -/
def Obligations.EncodeDecodeRoundTrip : Prop :=
  ∀ bytes i rest, decode bytes = .ok (i, rest) → bytes = encode i ++ rest

/-- R140: two bytes begin no instruction exactly when they are one of the listed reserved encodings. -/
def Obligations.ReservedEncodingsAreExactlyListed : Prop :=
  ∀ (b1 b2 : Byte) (rest : List Byte),
    (∃ e, decode (b1 :: b2 :: rest) = .error e) ↔
      (b1 = 0x1C ∨ (b1 = 0x36 ∧ b2.toNat < 0x40) ∨ (b1 = 0x38 ∧ b2.toNat / 16 ∈ [0xA, 0xB, 0xE, 0xF]) ∨
        (b1 = 0x3A ∧ b2.toNat / 16 ∈ [0x0, 0x1, 0x3, 0x4, 0x5, 0x7, 0x9, 0xB, 0xD, 0xF]))

/-- R112, R421: the first byte alone says the length, and every two-byte instruction takes two cycles. -/
def Obligations.FirstByteGivesLength : Prop :=
  ∀ (b1 : Byte) (bytes rest : List Byte) (i : Instr), decode (b1 :: bytes) = .ok (i, rest) →
    ((encode i).length = 2 ↔
      ((0x20 ≤ b1.toNat ∧ b1.toNat ≤ 0x29) ∨ (0x2C ≤ b1.toNat ∧ b1.toNat ≤ 0x2F) ∨ b1 = 0x36 ∨
        (0x38 ≤ b1.toNat ∧ b1.toNat ≤ 0x3F) ∨ (0x60 ≤ b1.toNat ∧ b1.toNat ≤ 0x6F))) ∧
    ((encode i).length = 1 ∨ (encode i).length = 2) ∧ instrLength i = (encode i).length ∧
    ((encode i).length = 2 → instrCycles i = 2)

/-- R120-R128: one word of each family, written out from its row, decodes to the instruction it stands for. -/
def Obligations.SampleWordsDecode : Prop :=
  decode [0x2D, 0xA3] = .ok (.stKY 0xA 0x3, []) ∧ decode [0x2E, 0x52] = .ok (.cmprYK 0x2 0x5, []) ∧
  decode [0x38, 0xCF] = .ok (.addHK 0xF, []) ∧ decode [0x38, 0x73] = .ok (.andHLK 0x3, []) ∧
  decode [0x39, 0x53] = .ok (.clrYB 0x3 1, []) ∧ decode [0x36, 0xDF] = .ok (.clrIL 0b011111, []) ∧
  decode [0x3A, 0xA9] = .ok (.outAP 0x19, []) ∧ decode [0x23, 0x45] = .ok (.call 0x345, []) ∧
  decode [0x85] = .ok (.bss 5, []) ∧ decode [0x73] = .ok (.calls 3, [])

/-! ## Whole-machine rules over all instructions -/

/-- R28, R29, R32: the writers of GF and of CF (that of the compares is D13, the spec's own choice, log 16). -/
def Obligations.FlagWriters : Prop :=
  ∀ i s t, exec i s = .next t →
    (t.gf ≠ s.gf → i = .setGF ∨ i = .clrGF ∨ i = .reti) ∧
    (t.cf ≠ s.cf →
      i = .addcAHL ∨ i = .subrcAHL ∨ i = .rolcA ∨ i = .rorcA ∨ i = .testCF ∨ i = .testpCF ∨ i = .reti ∨
        i = .cmprAHL ∨ (∃ x, i = .cmprAX x) ∨ (∃ k, i = .cmprAK k) ∨ ∃ y k, i = .cmprYK y k)

/-- R305, R308: EIF is set only by `EICLR IL` and `RETI` and reset only by `DICLR IL`; EIR is written only by `XCH A, EIR`;
no instruction sets a latch but for ISIO, which an input from the serial buffer or an output to the serial command can
raise (R378, U8); a latch is reset only by the three latch instructions. -/
def Obligations.InterruptControlWriters : Prop :=
  ∀ i s t, exec i s = .next t →
    (t.eif = true → s.eif = true ∨ i = .reti ∨ ∃ r, i = .eiclrIL r) ∧
    (t.eif = false → s.eif = false ∨ ∃ r, i = .diclrIL r) ∧
    (t.eir ≠ s.eir → i = .xchAEIR) ∧
    ∀ j < 6,
      (t.intl.getLsbD j = true → s.intl.getLsbD j = true ∨
        (j = 4 ∧ (i = .inPA 0xF ∨ i = .inPHL 0xF ∨ i = .outAP 0x1F ∨ i = .outHLP 0x1F))) ∧
      (s.intl.getLsbD j = true → t.intl.getLsbD j = true ∨
        ∃ r, i = .clrIL r ∨ i = .eiclrIL r ∨ i = .diclrIL r)

/-- R23, R25: an instruction that is no branch, call or return moves PC on by its length, modulo 4096. -/
def Obligations.SequentialProgramCounter : Prop :=
  ∀ i s t, exec i s = .next t → (∀ a, i ≠ .bs a) → (∀ d, i ≠ .bss d) → (∀ a, i ≠ .call a) → (∀ k, i ≠ .calls k) →
    i ≠ .ret → i ≠ .reti → t.pc.toNat = (s.pc.toNat + (encode i).length) % 4096

/-- R70, R79: only the thirteen input/output instructions touch a port latch, a command register or the serial port. -/
def Obligations.PortAccessIsByPortInstructions : Prop :=
  ∀ i s t, exec i s = .next t → t.ports ≠ s.ports ∨ t.cmds ≠ s.cmds ∨ t.sio ≠ s.sio →
    (∃ p, i = .inPA p) ∨ (∃ p, i = .inPHL p) ∨ (∃ p, i = .outAP p) ∨ (∃ p, i = .outHLP p) ∨ (∃ k p, i = .outKP k p) ∨
      i = .outbHL ∨ (∃ p b, i = .setPB p b) ∨ (∃ p b, i = .clrPB p b) ∨ i = .setL ∨ i = .clrL

/-! ## Memory -/

/-- R76, R77, R92: a load right after a store reads the stored word at every address that answers to it, and every other
word as before the store. -/
def Obligations.StoreThenLoad : Prop :=
  ∀ s t u x y, exec (.stAX x) s = .next t → exec (.ldAX y) t = .next u →
    u.ac = if ramIndex s y = ramIndex s x then s.ac else memRead s y

/-- R72, R76: on TMP4720P bit 11 of a ROM address and bit 7 of a RAM address are not decoded; on TMP4740P every address
has its own word, of ROM and of RAM. The masks act at the arrays only (D23, log 24). What is read from ROM is its contents:
a byte placed there, before the run (log 8), is what every address that answers to its word reads, and no other does. -/
def Obligations.AddressAliasing : Prop :=
  (∀ s, s.part = .tmp4720p →
    (∀ a, romRead s (a ^^^ 0x800) = romRead s a) ∧ (∀ a, memRead s (a ^^^ 0x80) = memRead s a) ∧
      (∀ a b, romIndex s a = romIndex s b ↔ a.extractLsb' 0 11 = b.extractLsb' 0 11) ∧
      ∀ a b, ramIndex s a = ramIndex s b ↔ a.extractLsb' 0 7 = b.extractLsb' 0 7) ∧
  (∀ s, s.part = .tmp4740p →
    (∀ a b, romIndex s a = romIndex s b ↔ a = b) ∧ ∀ a b, ramIndex s a = ramIndex s b ↔ a = b) ∧
  (∀ s a v b, romRead (placeByte a v s) b = if romIndex s b = romIndex s a then v else romRead s b) ∧
  (∀ s a v b, memRead (memWrite s a v) b = if ramIndex s b = ramIndex s a then v else memRead s b)

/-! ## Interrupts -/

/-- R302, R303: the factor a decision point accepts is latched and enabled, and no factor of a higher latch number is; EIF
enables them all, and below INT1 the bit of EIR that R303 names. -/
def Obligations.PriorityAndEnable : Prop :=
  (∀ s f, pendingFactor s = some f ↔
    s.intl.getLsbD (factorLatch f) = true ∧ factorEnabled s f = true ∧
      ∀ g, factorLatch f < factorLatch g → ¬(s.intl.getLsbD (factorLatch g) = true ∧ factorEnabled s g = true)) ∧
  (∀ s, factorEnabled s .int1 = s.eif ∧ factorEnabled s .isio = (s.eif && s.eir.getLsbD 3) ∧
    factorEnabled s .iovf1 = (s.eif && s.eir.getLsbD 2) ∧ factorEnabled s .iovf2 = (s.eif && s.eir.getLsbD 1) ∧
    factorEnabled s .itmr = (s.eif && s.eir.getLsbD 1) ∧ factorEnabled s .int2 = (s.eif && s.eir.getLsbD 0)) ∧
  (factorLatch .int1 = 5 ∧ factorLatch .isio = 4 ∧ factorLatch .iovf1 = 3 ∧ factorLatch .iovf2 = 2 ∧
    factorLatch .itmr = 1 ∧ factorLatch .int2 = 0)

/-- R310, R311: what an acceptance does: the saved PC and flags, the vector, SF = 1, EIF = 0, the latch reset; CF, ZF, GF,
AC, H, L and all else stay. The stack and flag layout is D3, D4 and D7, the spec's own choice (log 13, 15). -/
def Obligations.AcceptanceResult : Prop :=
  ∀ s f base, spw s ≠ 0xF → base = stackAddr (spw s) →
    ∃ m l, acceptInterrupt f s =
        { s with
          pc := BitVec.ofNat 12 (0x00C - 2 * factorLatch f)
          ram := m
          sf := true
          eif := false
          intl := l } ∧
      (∀ j < 6, l.getLsbD j = (s.intl.getLsbD j && !decide (j = factorLatch f))) ∧
      memRead (s.setRam m) base = s.pc.extractLsb' 0 4 ∧
      memRead (s.setRam m) (base + 1) = s.pc.extractLsb' 4 4 ∧
      memRead (s.setRam m) (base + 2) = s.pc.extractLsb' 8 4 ∧
      memRead (s.setRam m) (base + 3) =
        BitVec.ofBool s.cf ++ BitVec.ofBool s.zf ++ BitVec.ofBool s.sf ++ BitVec.ofBool s.gf ∧
      memRead (s.setRam m) 0xFF = spw s - 1 ∧
      OnlyWords s m [base, base + 1, base + 2, base + 3, 0xFF]

/-- R312: `RETI` after an acceptance restores PC, the four flags and SPW of the interrupted program and sets EIF. -/
def Obligations.RetiUndoesAcceptance : Prop :=
  ∀ s f, spw s ≠ 0xF →
    ∃ u, exec .reti (acceptInterrupt f s) = .next u ∧ u.pc = s.pc ∧ u.cf = s.cf ∧ u.zf = s.zf ∧ u.sf = s.sf ∧
      u.gf = s.gf ∧ spw u = spw s ∧ u.eif = true ∧ u.ac = s.ac ∧ u.hr = s.hr ∧ u.lr = s.lr ∧ u.eir = s.eir

/-! ## Peripherals -/

/-- R340, R367: a cycle of the peripherals changes no CPU register and no RAM, resets no interrupt latch and no count
latch, sets neither overflow latch (INTL3, INTL2), and counts the divider up by one. -/
def Obligations.TickFrame : Prop :=
  ∀ s, ∃ l q c1 c2 n, tick s =
      { s with
        intl := l, sio := q, cntl1 := c1, cntl2 := c2, freeCount := n, divider := s.divider + 1, prev := edgePins s } ∧
    (∀ j < 6, s.intl.getLsbD j = true → l.getLsbD j = true) ∧ l.getLsbD 3 = s.intl.getLsbD 3 ∧
    l.getLsbD 2 = s.intl.getLsbD 2 ∧ (s.cntl1 = true → c1 = true) ∧ (s.cntl2 = true → c2 = true)

/-- R304, R345: a falling edge at pin R82 sets INTL5 and one at R80 sets INTL0; nothing else in a cycle does. The pin is
the AND of latch and outside level (R84, D19, log 25). -/
def Obligations.PinEdgeInterrupts : Prop :=
  ∀ s,
    (tick s).intl.getLsbD 5 =
      (s.intl.getLsbD 5 || (s.prev.r82 && !(s.ports.r8.getLsbD 2 && s.env.r8.getLsbD 2))) ∧
    (tick s).intl.getLsbD 0 =
      (s.intl.getLsbD 0 || (s.prev.r80 && !(s.ports.r8.getLsbD 0 && s.env.r8.getLsbD 0)))

/-- R351, R352: a cycle sets INTL1 exactly by a rise of the enabled divider stage, FD6 to FD9. Counted from a cleared
divider, that is in cycle 64, 128, 256 or 512 and not before; disabled, never. The phase is D17, the spec's own choice
(log 29). -/
def Obligations.DividerInterruptTime : Prop :=
  (∀ s k, k = 6 + (s.cmds.cmd19.extractLsb' 0 2).toNat →
    (tick s).intl.getLsbD 1 =
      (s.intl.getLsbD 1 ||
        (s.cmds.cmd19.getLsbD 2 && !s.divider.getLsbD k && (s.divider + 1).getLsbD k))) ∧
  (∀ s n, s.divider = 0 →
    (ticks n s).intl.getLsbD 1 =
      (s.intl.getLsbD 1 ||
        (s.cmds.cmd19.getLsbD 2 && decide (64 * 2 ^ (s.cmds.cmd19.extractLsb' 0 2).toNat ≤ n))))

/-- R362: what sets a channel's count latch in a cycle, by the mode in its command register (D27, log 30): never, the
rising edge of its pin (R83, R81), that of the divider stage, or that of their AND. -/
def Obligations.CountPulseResults : Prop :=
  (∀ s k (pin stage stageNext : Bool),
    k = 6 + 4 * (s.cmds.cmd1C.extractLsb' 0 2).toNat → pin = (s.ports.r8.getLsbD 3 && s.env.r8.getLsbD 3) →
    stage = s.divider.getLsbD k → stageNext = (s.divider + 1).getLsbD k →
    (tick s).cntl1 =
      (s.cntl1 ||
        match (s.cmds.cmd1C.extractLsb' 2 2).toNat with
        | 0 => false
        | 1 => !s.prev.r83 && pin
        | 2 => !stage && stageNext
        | _ => !(stage && s.prev.r83) && (stageNext && pin))) ∧
  (∀ s k (pin stage stageNext : Bool),
    k = 6 + 4 * (s.cmds.cmd1D.extractLsb' 0 2).toNat → pin = (s.ports.r8.getLsbD 1 && s.env.r8.getLsbD 1) →
    stage = s.divider.getLsbD k → stageNext = (s.divider + 1).getLsbD k →
    (tick s).cntl2 =
      (s.cntl2 ||
        match (s.cmds.cmd1D.extractLsb' 2 2).toNat with
        | 0 => false
        | 1 => !s.prev.r81 && pin
        | 2 => !stage && stageNext
        | _ => !(stage && s.prev.r81) && (stageNext && pin)))

/-- R366, R367: a count operation adds one to the channel's counter modulo 4096, resets its count latch, and sets its
overflow latch exactly when the counter was FFF. The words of the counters are D6, the spec's own choice (log 14). -/
def Obligations.CountOperationResult : Prop :=
  (∀ s n, n = (memRead s 0xF6 ++ memRead s 0xF5 ++ memRead s 0xF4).toNat →
    ∃ m l, countOperation .one s = { s with ram := m, cntl1 := false, intl := l } ∧
      (memRead (s.setRam m) 0xF6 ++ memRead (s.setRam m) 0xF5 ++ memRead (s.setRam m) 0xF4).toNat = (n + 1) % 4096 ∧
      OnlyWords s m [0xF4, 0xF5, 0xF6] ∧
      ∀ j < 6, l.getLsbD j = (s.intl.getLsbD j || decide (j = 3 ∧ n = 0xFFF))) ∧
  (∀ s n, n = (memRead s 0xFA ++ memRead s 0xF9 ++ memRead s 0xF8).toNat →
    ∃ m l, countOperation .two s = { s with ram := m, cntl2 := false, intl := l } ∧
      (memRead (s.setRam m) 0xFA ++ memRead (s.setRam m) 0xF9 ++ memRead (s.setRam m) 0xF8).toNat = (n + 1) % 4096 ∧
      OnlyWords s m [0xF8, 0xF9, 0xFA] ∧
      ∀ j < 6, l.getLsbD j = (s.intl.getLsbD j || decide (j = 2 ∧ n = 0xFFF)))

/-- R315 steps 2 and 3, R366: what follows an instruction of `n + 1` cycles is that many ticks, then, while a request is
set, one count operation and its cycle, channel 1 before channel 2. No request is left, so the bound of four operations
ends no loop early (log 28). -/
def Obligations.CountRequestsAreServed : Prop :=
  (∀ s, ticks 0 s = s) ∧ (∀ s n, ticks (n + 1) s = tick (ticks n s)) ∧
  (∀ s n, ∃ (k : Nat) (run : Nat → State), k ≤ 4 ∧ run 0 = ticks (n + 1) s ∧ afterInstruction (n + 1) s = run k ∧
    (∀ j < k,
      ((run j).cntl1 = true ∧ run (j + 1) = tick (countOperation .one (run j))) ∨
        ((run j).cntl1 = false ∧ (run j).cntl2 = true ∧ run (j + 1) = tick (countOperation .two (run j)))) ∧
    (run k).cntl1 = false ∧ (run k).cntl2 = false)

/-- R376, R377, R379: what a shift edge does, and the order of the bits. At a word boundary with ESIO = 0 the transfer ends;
with an empty buffer in transmission, or SR holding a word in reception, the internal clock waits and the external one
breaks the protocol (U8, log 12); none of these shifts. Else a bit goes out of SR or comes in, also with ESIO = 0 inside a
word: the first edge of a transmitted word takes it from the buffer and raises the request, the fourth of a received one
gives it to a free buffer and raises the request, or keeps it in SR. So four edges send, or make, a word least significant
bit first. The granularity is D26, the spec's own choice (log 31); the vacated bit `u` is open (log 37). -/
def Obligations.SerialLowBitFirst : Prop :=
  (∀ s, s.sio.nb = 0 → s.cmds.cmd1F.getLsbD 3 = false →
    transmitEdge s = { s with sio := { s.sio with siof := false } } ∧
      ∀ b, receiveEdge b s = { s with sio := { s.sio with siof := false } }) ∧
  (∀ s, s.sio.nb = 0 → s.cmds.cmd1F.getLsbD 3 = true → s.sio.sbFull = false →
    transmitEdge s =
      if s.cmds.cmd1F.getLsbD 0 then { s with sio := { s.sio with unspec := true } }
      else { s with sio := { s.sio with waiting := true } }) ∧
  (∀ s, s.sio.nb = 0 → s.cmds.cmd1F.getLsbD 3 = true → s.sio.sbFull = true →
    ∃ (u : BitVec 1) (l : BitVec 6), transmitEdge s =
        { s with
          intl := l
          freeCount := s.freeCount + 1
          sio :=
            { s.sio with
              sOut := s.sio.sb.getLsbD 0, sr := u ++ s.sio.sb.extractLsb' 1 3, nb := 1, sbFull := false, req := true
              sef := true } } ∧
      ∀ j < 6, l.getLsbD j = (s.intl.getLsbD j || (decide (j = 4) && !s.sio.req))) ∧
  (∀ s, s.sio.nb ≠ 0 →
    ∃ u : BitVec 1, transmitEdge s =
      { s with
        freeCount := s.freeCount + 1
        sio :=
          { s.sio with
            sOut := s.sio.sr.getLsbD 0, sr := u ++ s.sio.sr.extractLsb' 1 3, nb := s.sio.nb + 1
            sef := s.sio.sef && decide (s.sio.nb ≠ 3) } }) ∧
  (∀ s b, s.sio.nb ≠ 0 ∨ s.cmds.cmd1F.getLsbD 3 = true → s.sio.srFull = true →
    receiveEdge b s =
      if s.cmds.cmd1F.getLsbD 0 then { s with sio := { s.sio with unspec := true } }
      else { s with sio := { s.sio with waiting := true } }) ∧
  (∀ s b (w : Nibble), s.sio.nb ≠ 0 ∨ s.cmds.cmd1F.getLsbD 3 = true → s.sio.srFull = false →
    w = BitVec.ofBool b ++ s.sio.sr.extractLsb' 1 3 →
    (s.sio.nb ≠ 3 →
      receiveEdge b s = { s with sio := { s.sio with sr := w, nb := s.sio.nb + 1, sef := true } }) ∧
    (s.sio.nb = 3 → s.sio.sbFull = true →
      receiveEdge b s = { s with sio := { s.sio with sr := w, nb := 0, sef := false, srFull := true } }) ∧
    (s.sio.nb = 3 → s.sio.sbFull = false →
      ∃ l : BitVec 6, receiveEdge b s =
          { s with
            intl := l
            sio := { s.sio with sr := w, sb := w, nb := 0, sef := false, sbFull := true, req := true } } ∧
        ∀ j < 6, l.getLsbD j = (s.intl.getLsbD j || (decide (j = 4) && !s.sio.req)))) ∧
  (∀ s a b c d, s.sio.nb = 0 → s.sio.sbFull = true → s.cmds.cmd1F.getLsbD 3 = true →
    a = transmitEdge s → b = transmitEdge a → c = transmitEdge b → d = transmitEdge c →
    a.sio.sOut = s.sio.sb.getLsbD 0 ∧ b.sio.sOut = s.sio.sb.getLsbD 1 ∧ c.sio.sOut = s.sio.sb.getLsbD 2 ∧
      d.sio.sOut = s.sio.sb.getLsbD 3 ∧ a.sio.sbFull = false ∧ a.sio.req = true ∧
      (s.sio.req = false → a.intl.getLsbD 4 = true) ∧ a.sio.sef = true ∧ b.sio.sef = true ∧ c.sio.sef = true ∧
      d.sio.sef = false ∧ d.sio.nb = 0 ∧ d.sio.siof = s.sio.siof) ∧
  (∀ s b0 b1 b2 b3 (w : Nibble) t, s.sio.nb = 0 → s.sio.srFull = false → s.cmds.cmd1F.getLsbD 3 = true →
    w = BitVec.ofBool b3 ++ BitVec.ofBool b2 ++ BitVec.ofBool b1 ++ BitVec.ofBool b0 →
    t = receiveEdge b3 (receiveEdge b2 (receiveEdge b1 (receiveEdge b0 s))) →
    t.sio.sr = w ∧ t.sio.nb = 0 ∧ t.sio.sef = false ∧
      (s.sio.sbFull = false → t.sio.sb = w ∧ t.sio.sbFull = true ∧ t.sio.req = true ∧
        (s.sio.req = false → t.intl.getLsbD 4 = true)) ∧
      (s.sio.sbFull = true → t.sio.sb = s.sio.sb ∧ t.sio.srFull = true ∧ t.sio.req = s.sio.req))

/-- R371, R373, R374, R380: which edge of which clock shifts, in one cycle: with ECKM = 0 the edge of FD3 while a transfer
runs and does not wait, with ECKM = 1 that of pin SCK; the leading (falling) edge in transmit and leading-edge receive mode,
the trailing (rising) one in trailing-edge receive mode; the bit received is the level of pin SI. SCKOUT is FD3 while the
internal clock runs, else 1, and INTL4 is set exactly by a rise of the request. Where the protocol is broken (U8, log 12)
the registers that U8 names hold any value and the others are as stated. The granularity is D26 (log 31). -/
def Obligations.SerialShiftOfACycle : Prop :=
  ∀ s q sck, q = shifted s →
    (sck = if !s.cmds.cmd1F.getLsbD 0 && q.siof && !q.waiting then (s.divider + 1).getLsbD 3 else true) →
    (q.unspec = false →
      (tick s).sio = { q with sckOut := sck } ∧
        (tick s).intl.getLsbD 4 = (s.intl.getLsbD 4 || (!s.sio.req && q.req))) ∧
    (q.unspec = true →
      (tick s).sio.siof = q.siof ∧ (tick s).sio.sef = q.sef ∧ (tick s).sio.waiting = q.waiting ∧
        (tick s).sio.sckOut = sck ∧ (tick s).sio.unspec = true ∧
        (tick s).intl.getLsbD 4 = (s.intl.getLsbD 4 || (!s.sio.req && q.req) || (!q.req && (tick s).sio.req)))

/-- R374, R376, R379: while the internal shift clock waits, any number of cycles leaves the serial port as it is, but for
the idle level of SCK. -/
def Obligations.WaitHoldsTheSerialPort : Prop :=
  ∀ s n, s.sio.waiting = true → s.cmds.cmd1F.getLsbD 0 = false → s.sio.unspec = false →
    (ticks (n + 1) s).sio = { s.sio with sckOut := true }

/-! ## The step, reset and the invariant -/

/-- R111, R140, R309, R315, R316: when the bytes at PC decode, a step runs that instruction: `exec`, its cycles and the
count operations (`afterInstruction`), then, where a factor is pending, its acceptance and two cycles, and last the outside
levels of the next step. Where `exec` stops, the step stops the same way; an acceptance at stack level F (U6) and a reserved
encoding (U2) are refused. The decision and its cost are D15, the order D29, the spec's own choices (log 19, 21, 26, 27). -/
def Obligations.StepRunsDecodedInstruction : Prop :=
  (∀ s i rest, s.env.event = .run → decode [romRead s s.pc, romRead s (s.pc + 1)] = .ok (i, rest) →
    (∀ r, exec i s = .refused r → step s = .refused r) ∧
    (∀ t u, exec i s = .next t → u = afterInstruction (instrCycles i) t →
      (pendingFactor u = none → step s = .next (nextEnv u)) ∧
      (∀ f, pendingFactor u = some f → spw u ≠ 0xF →
        step s = .next (nextEnv (tick (tick (acceptInterrupt f u))))) ∧
      (∀ f, pendingFactor u = some f → spw u = 0xF → step s = .refused .stackLevelF))) ∧
  (∀ s e, s.env.event = .run → decode [romRead s s.pc, romRead s (s.pc + 1)] = .error e →
    step s = .refused (.reservedEncoding (romRead s s.pc) (romRead s (s.pc + 1))))

/-- R402-R405, R414: the initialization operation leaves what `AfterReset` says, with the serial control state and the count
latches of D14 (log 5), however it strikes. Between two steps RAM keeps every word (log 7: no word was being written); after
a power-up every RAM word is a free value of its own. The zeros of `State.reset` (log 2, 3, 4) do not enter. -/
def Obligations.ResetOperation : Prop :=
  (∀ s, s.env.event = .reset → ∃ t, step s = .next t ∧ AfterReset s t ∧ t.ram = s.ram) ∧
  (∀ s, s.env.event = .powerUp → ∃ t k, step s = .next t ∧ AfterReset s t ∧
    ∀ a, memRead t a = Config.freeNibble (k + ramIndex s a))

/-- R401, R404: a RESET that strikes inside a step abandons it. Every instruction, and every step that runs, changes no RAM
word but those `instrWords` and `stepWords` name (the instruction's, the count operations', the acceptance's); after the
abandoned step each of these holds a free value, taken after those of the instruction, its cycles and its count operations,
and every other word is as before. Where the spec gives the step no meaning, a reserved encoding (U2), an instruction that
stops (U3, U6, U7) or an acceptance at stack level F (U6), every word is free, the model's choice (log 7). -/
def Obligations.ResetInsideAStep : Prop :=
  (∀ i s t, exec i s = .next t → OnlyWords s t.ram (instrWords i s)) ∧
  (∀ s i u t, s.env.event = .run → fetch s = .ok i → exec i s = .next u → step s = .next t →
    OnlyWords s t.ram (stepWords i s u)) ∧
  (∀ s, s.env.event = .resetInStep → ∃ t, step s = .next t ∧ AfterReset s t ∧
    (∀ i u w, fetch s = .ok i → exec i s = .next u → w = afterInstruction (instrCycles i) u →
      pendingFactor w = none ∨ spw w ≠ 0xF →
      OnlyWords s t.ram (stepWords i s u) ∧
        ∀ a ∈ stepWords i s u, ∃ k, w.freeCount ≤ k ∧ memRead t a = Config.freeNibble k) ∧
    ((∀ i u w, fetch s = .ok i → exec i s = .next u → w = afterInstruction (instrCycles i) u →
        pendingFactor w ≠ none ∧ spw w = 0xF) →
      ∃ k, ∀ a, memRead t a = Config.freeNibble (k + ramIndex s a)))

/-- R8, R71, R95: no step changes the program memory, the part or the circuit code. -/
def Obligations.StepKeepsTheChip : Prop :=
  ∀ s t, step s = .next t → t.rom = s.rom ∧ t.part = s.part ∧ t.ioCode = s.ioCode

/-- R71, R75, R371, R376, R377, R379: every step keeps the invariant `StateInv`: canonical memories inside their arrays, no
enabled serial port in mode 00, and a transfer in progress while the port is enabled. -/
def Obligations.StepKeepsInvariant : Prop :=
  ∀ s t, StateInv s → step s = .next t → StateInv t

/-- R60: the state after reset has the invariant. -/
def Obligations.ResetHasInvariant : Prop :=
  StateInv State.reset
end

