-- ==== Sys2Proof/Laws/Memory.lean ====
section
/-! SUPPORT. Reads after writes of a memory, and the canonical form that every write keeps. -/

namespace Sys2Proof.Machine

theorem Memory.read_of_absent {w : Nat} (m : Memory w) (a : Nat) (h : ∀ c ∈ m, c.1 ≠ a) :
    m.read a = Memory.blank w := by
  induction m with
  | nil => rfl
  | cons c rest ih =>
    obtain ⟨b, v⟩ := c
    have hb : b ≠ a := h (b, v) (by simp)
    simp only [Memory.read, if_neg hb]
    exact ih (fun c hc => h c (by simp [hc]))

theorem Memory.absent_erase {w : Nat} (m : Memory w) (a : Nat) : ∀ c ∈ m.erase a, c.1 ≠ a := by
  intro c hc
  simpa using (List.mem_filter.mp hc).2

theorem Memory.read_erase {w : Nat} (m : Memory w) (a b : Nat) :
    (m.erase a).read b = if b = a then Memory.blank w else m.read b := by
  by_cases hb : b = a
  · subst hb
    rw [if_pos rfl]
    exact Memory.read_of_absent _ _ (Memory.absent_erase m b)
  · rw [if_neg hb]
    induction m with
    | nil => rfl
    | cons c rest ih =>
      obtain ⟨x, v⟩ := c
      by_cases hx : x = a
      · have hxb : x ≠ b := fun h => hb (h ▸ hx)
        have he : Memory.erase ((x, v) :: rest) a = Memory.erase rest a := by simp [Memory.erase, hx]
        rw [he, ih]
        simp [Memory.read, hxb]
      · have he : Memory.erase ((x, v) :: rest) a = (x, v) :: Memory.erase rest a := by simp [Memory.erase, hx]
        rw [he]
        simp only [Memory.read]
        rw [ih]

theorem Memory.read_insert {w : Nat} (m : Memory w) (a b : Nat) (v : BitVec w) (h : ∀ c ∈ m, c.1 ≠ a) :
    (m.insert a v).read b = if b = a then v else m.read b := by
  induction m with
  | nil =>
    by_cases hb : b = a
    · simp [Memory.insert, Memory.read, hb]
    · simp [Memory.insert, Memory.read, hb, Ne.symm hb]
  | cons c rest ih =>
    obtain ⟨x, u⟩ := c
    have hx : x ≠ a := h (x, u) (by simp)
    have ih' := ih (fun c hc => h c (by simp [hc]))
    simp only [Memory.insert]
    split
    · by_cases hb : b = a
      · simp [Memory.read, hb]
      · simp [Memory.read, hb, Ne.symm hb]
    · simp only [Memory.read, ih']
      by_cases hb : b = a
      · subst hb
        simp [hx]
      · simp [hb]

/-- A read after a write: the written word at its address, every other word as before. -/
theorem Memory.read_write {w : Nat} (m : Memory w) (a b : Nat) (v : BitVec w) :
    (m.write a v).read b = if b = a then v else m.read b := by
  unfold Memory.write
  split
  · next hv => rw [Memory.read_erase, hv]
  · rw [Memory.read_insert _ _ _ _ (Memory.absent_erase m a), Memory.read_erase]
    split <;> rfl

theorem Memory.wfFrom_mono {w : Nat} (low low' size : Nat) (m : Memory w) (hl : low' ≤ low)
    (h : m.wfFrom low size = true) : m.wfFrom low' size = true := by
  cases m with
  | nil => rfl
  | cons c rest =>
    obtain ⟨b, v⟩ := c
    simp only [Memory.wfFrom, Bool.and_eq_true, decide_eq_true_eq] at h ⊢
    exact ⟨⟨⟨by omega, h.1.1.2⟩, h.1.2⟩, h.2⟩

theorem Memory.wfFrom_erase {w : Nat} (low size a : Nat) (m : Memory w) (h : m.wfFrom low size = true) :
    (m.erase a).wfFrom low size = true := by
  induction m generalizing low with
  | nil => rfl
  | cons c rest ih =>
    obtain ⟨b, v⟩ := c
    simp only [Memory.wfFrom, Bool.and_eq_true, decide_eq_true_eq] at h
    by_cases hb : b = a
    · have he : Memory.erase ((b, v) :: rest) a = Memory.erase rest a := by simp [Memory.erase, hb]
      rw [he]
      exact Memory.wfFrom_mono (b + 1) low size _ (by omega) (ih (b + 1) h.2)
    · have he : Memory.erase ((b, v) :: rest) a = (b, v) :: Memory.erase rest a := by simp [Memory.erase, hb]
      rw [he]
      simp only [Memory.wfFrom, Bool.and_eq_true, decide_eq_true_eq]
      exact ⟨h.1, ih (b + 1) h.2⟩

theorem Memory.wfFrom_insert {w : Nat} (low size a : Nat) (v : BitVec w) (m : Memory w) (hl : low ≤ a) (ha : a < size)
    (hv : v ≠ Memory.blank w) (hne : ∀ c ∈ m, c.1 ≠ a) (h : m.wfFrom low size = true) :
    (m.insert a v).wfFrom low size = true := by
  induction m generalizing low with
  | nil => simp [Memory.insert, Memory.wfFrom, hl, ha, hv]
  | cons c rest ih =>
    obtain ⟨b, u⟩ := c
    have hb : b ≠ a := hne (b, u) (by simp)
    simp only [Memory.wfFrom, Bool.and_eq_true, decide_eq_true_eq] at h
    simp only [Memory.insert]
    split
    · simp only [Memory.wfFrom, Bool.and_eq_true, decide_eq_true_eq]
      exact ⟨⟨⟨hl, ha⟩, hv⟩, ⟨⟨by omega, h.1.1.2⟩, h.1.2⟩, h.2⟩
    · simp only [Memory.wfFrom, Bool.and_eq_true, decide_eq_true_eq]
      exact ⟨h.1, ih (b + 1) (by omega) (fun c hc => hne c (by simp [hc])) h.2⟩

/-- A write inside the array keeps the canonical form. -/
theorem Memory.wf_write {w : Nat} (size a : Nat) (v : BitVec w) (m : Memory w) (ha : a < size)
    (h : m.wf size = true) : (m.write a v).wf size = true := by
  unfold Memory.write Memory.wf at *
  split
  · exact Memory.wfFrom_erase 0 size a m h
  · next hv =>
    exact Memory.wfFrom_insert 0 size a v _ (Nat.zero_le a) ha hv (Memory.absent_erase m a)
      (Memory.wfFrom_erase 0 size a m h)

/-- A memory with nothing listed is in canonical form. -/
theorem Memory.wf_nil {w : Nat} (size : Nat) : Memory.wf size ([] : Memory w) = true := rfl

/-- The memories of the state after reset are in canonical form. -/
theorem State.reset_memory_wf : State.reset.ram.wf 256 = true ∧ State.reset.rom.wf 4096 = true := ⟨rfl, rfl⟩

end Sys2Proof.Machine
end

