-- ==== Sys2Proof/Laws/State.lean ====
section
/-! SUPPORT. One lemma per field per named update of State, true by rfl, so that no later proof unfolds a record update. -/

namespace Sys2Proof.Machine

variable (s : State)

@[simp] theorem State.setPc_pc (v : RomAddr) : (s.setPc v).pc = v := rfl
@[simp] theorem State.setPc_ac (v : RomAddr) : (s.setPc v).ac = s.ac := rfl
@[simp] theorem State.setPc_hr (v : RomAddr) : (s.setPc v).hr = s.hr := rfl
@[simp] theorem State.setPc_lr (v : RomAddr) : (s.setPc v).lr = s.lr := rfl
@[simp] theorem State.setPc_cf (v : RomAddr) : (s.setPc v).cf = s.cf := rfl
@[simp] theorem State.setPc_zf (v : RomAddr) : (s.setPc v).zf = s.zf := rfl
@[simp] theorem State.setPc_sf (v : RomAddr) : (s.setPc v).sf = s.sf := rfl
@[simp] theorem State.setPc_gf (v : RomAddr) : (s.setPc v).gf = s.gf := rfl
@[simp] theorem State.setPc_rom (v : RomAddr) : (s.setPc v).rom = s.rom := rfl
@[simp] theorem State.setPc_ram (v : RomAddr) : (s.setPc v).ram = s.ram := rfl
@[simp] theorem State.setPc_part (v : RomAddr) : (s.setPc v).part = s.part := rfl
@[simp] theorem State.setPc_ioCode (v : RomAddr) : (s.setPc v).ioCode = s.ioCode := rfl
@[simp] theorem State.setPc_eif (v : RomAddr) : (s.setPc v).eif = s.eif := rfl
@[simp] theorem State.setPc_eir (v : RomAddr) : (s.setPc v).eir = s.eir := rfl
@[simp] theorem State.setPc_intl (v : RomAddr) : (s.setPc v).intl = s.intl := rfl
@[simp] theorem State.setPc_ports (v : RomAddr) : (s.setPc v).ports = s.ports := rfl
@[simp] theorem State.setPc_cmds (v : RomAddr) : (s.setPc v).cmds = s.cmds := rfl
@[simp] theorem State.setPc_divider (v : RomAddr) : (s.setPc v).divider = s.divider := rfl
@[simp] theorem State.setPc_sio (v : RomAddr) : (s.setPc v).sio = s.sio := rfl
@[simp] theorem State.setPc_cntl1 (v : RomAddr) : (s.setPc v).cntl1 = s.cntl1 := rfl
@[simp] theorem State.setPc_cntl2 (v : RomAddr) : (s.setPc v).cntl2 = s.cntl2 := rfl
@[simp] theorem State.setPc_prev (v : RomAddr) : (s.setPc v).prev = s.prev := rfl
@[simp] theorem State.setPc_env (v : RomAddr) : (s.setPc v).env = s.env := rfl
@[simp] theorem State.setPc_inputs (v : RomAddr) : (s.setPc v).inputs = s.inputs := rfl
@[simp] theorem State.setPc_freeCount (v : RomAddr) : (s.setPc v).freeCount = s.freeCount := rfl
@[simp] theorem State.setAc_pc (v : Nibble) : (s.setAc v).pc = s.pc := rfl
@[simp] theorem State.setAc_ac (v : Nibble) : (s.setAc v).ac = v := rfl
@[simp] theorem State.setAc_hr (v : Nibble) : (s.setAc v).hr = s.hr := rfl
@[simp] theorem State.setAc_lr (v : Nibble) : (s.setAc v).lr = s.lr := rfl
@[simp] theorem State.setAc_cf (v : Nibble) : (s.setAc v).cf = s.cf := rfl
@[simp] theorem State.setAc_zf (v : Nibble) : (s.setAc v).zf = s.zf := rfl
@[simp] theorem State.setAc_sf (v : Nibble) : (s.setAc v).sf = s.sf := rfl
@[simp] theorem State.setAc_gf (v : Nibble) : (s.setAc v).gf = s.gf := rfl
@[simp] theorem State.setAc_rom (v : Nibble) : (s.setAc v).rom = s.rom := rfl
@[simp] theorem State.setAc_ram (v : Nibble) : (s.setAc v).ram = s.ram := rfl
@[simp] theorem State.setAc_part (v : Nibble) : (s.setAc v).part = s.part := rfl
@[simp] theorem State.setAc_ioCode (v : Nibble) : (s.setAc v).ioCode = s.ioCode := rfl
@[simp] theorem State.setAc_eif (v : Nibble) : (s.setAc v).eif = s.eif := rfl
@[simp] theorem State.setAc_eir (v : Nibble) : (s.setAc v).eir = s.eir := rfl
@[simp] theorem State.setAc_intl (v : Nibble) : (s.setAc v).intl = s.intl := rfl
@[simp] theorem State.setAc_ports (v : Nibble) : (s.setAc v).ports = s.ports := rfl
@[simp] theorem State.setAc_cmds (v : Nibble) : (s.setAc v).cmds = s.cmds := rfl
@[simp] theorem State.setAc_divider (v : Nibble) : (s.setAc v).divider = s.divider := rfl
@[simp] theorem State.setAc_sio (v : Nibble) : (s.setAc v).sio = s.sio := rfl
@[simp] theorem State.setAc_cntl1 (v : Nibble) : (s.setAc v).cntl1 = s.cntl1 := rfl
@[simp] theorem State.setAc_cntl2 (v : Nibble) : (s.setAc v).cntl2 = s.cntl2 := rfl
@[simp] theorem State.setAc_prev (v : Nibble) : (s.setAc v).prev = s.prev := rfl
@[simp] theorem State.setAc_env (v : Nibble) : (s.setAc v).env = s.env := rfl
@[simp] theorem State.setAc_inputs (v : Nibble) : (s.setAc v).inputs = s.inputs := rfl
@[simp] theorem State.setAc_freeCount (v : Nibble) : (s.setAc v).freeCount = s.freeCount := rfl
@[simp] theorem State.setHr_pc (v : Nibble) : (s.setHr v).pc = s.pc := rfl
@[simp] theorem State.setHr_ac (v : Nibble) : (s.setHr v).ac = s.ac := rfl
@[simp] theorem State.setHr_hr (v : Nibble) : (s.setHr v).hr = v := rfl
@[simp] theorem State.setHr_lr (v : Nibble) : (s.setHr v).lr = s.lr := rfl
@[simp] theorem State.setHr_cf (v : Nibble) : (s.setHr v).cf = s.cf := rfl
@[simp] theorem State.setHr_zf (v : Nibble) : (s.setHr v).zf = s.zf := rfl
@[simp] theorem State.setHr_sf (v : Nibble) : (s.setHr v).sf = s.sf := rfl
@[simp] theorem State.setHr_gf (v : Nibble) : (s.setHr v).gf = s.gf := rfl
@[simp] theorem State.setHr_rom (v : Nibble) : (s.setHr v).rom = s.rom := rfl
@[simp] theorem State.setHr_ram (v : Nibble) : (s.setHr v).ram = s.ram := rfl
@[simp] theorem State.setHr_part (v : Nibble) : (s.setHr v).part = s.part := rfl
@[simp] theorem State.setHr_ioCode (v : Nibble) : (s.setHr v).ioCode = s.ioCode := rfl
@[simp] theorem State.setHr_eif (v : Nibble) : (s.setHr v).eif = s.eif := rfl
@[simp] theorem State.setHr_eir (v : Nibble) : (s.setHr v).eir = s.eir := rfl
@[simp] theorem State.setHr_intl (v : Nibble) : (s.setHr v).intl = s.intl := rfl
@[simp] theorem State.setHr_ports (v : Nibble) : (s.setHr v).ports = s.ports := rfl
@[simp] theorem State.setHr_cmds (v : Nibble) : (s.setHr v).cmds = s.cmds := rfl
@[simp] theorem State.setHr_divider (v : Nibble) : (s.setHr v).divider = s.divider := rfl
@[simp] theorem State.setHr_sio (v : Nibble) : (s.setHr v).sio = s.sio := rfl
@[simp] theorem State.setHr_cntl1 (v : Nibble) : (s.setHr v).cntl1 = s.cntl1 := rfl
@[simp] theorem State.setHr_cntl2 (v : Nibble) : (s.setHr v).cntl2 = s.cntl2 := rfl
@[simp] theorem State.setHr_prev (v : Nibble) : (s.setHr v).prev = s.prev := rfl
@[simp] theorem State.setHr_env (v : Nibble) : (s.setHr v).env = s.env := rfl
@[simp] theorem State.setHr_inputs (v : Nibble) : (s.setHr v).inputs = s.inputs := rfl
@[simp] theorem State.setHr_freeCount (v : Nibble) : (s.setHr v).freeCount = s.freeCount := rfl
@[simp] theorem State.setLr_pc (v : Nibble) : (s.setLr v).pc = s.pc := rfl
@[simp] theorem State.setLr_ac (v : Nibble) : (s.setLr v).ac = s.ac := rfl
@[simp] theorem State.setLr_hr (v : Nibble) : (s.setLr v).hr = s.hr := rfl
@[simp] theorem State.setLr_lr (v : Nibble) : (s.setLr v).lr = v := rfl
@[simp] theorem State.setLr_cf (v : Nibble) : (s.setLr v).cf = s.cf := rfl
@[simp] theorem State.setLr_zf (v : Nibble) : (s.setLr v).zf = s.zf := rfl
@[simp] theorem State.setLr_sf (v : Nibble) : (s.setLr v).sf = s.sf := rfl
@[simp] theorem State.setLr_gf (v : Nibble) : (s.setLr v).gf = s.gf := rfl
@[simp] theorem State.setLr_rom (v : Nibble) : (s.setLr v).rom = s.rom := rfl
@[simp] theorem State.setLr_ram (v : Nibble) : (s.setLr v).ram = s.ram := rfl
@[simp] theorem State.setLr_part (v : Nibble) : (s.setLr v).part = s.part := rfl
@[simp] theorem State.setLr_ioCode (v : Nibble) : (s.setLr v).ioCode = s.ioCode := rfl
@[simp] theorem State.setLr_eif (v : Nibble) : (s.setLr v).eif = s.eif := rfl
@[simp] theorem State.setLr_eir (v : Nibble) : (s.setLr v).eir = s.eir := rfl
@[simp] theorem State.setLr_intl (v : Nibble) : (s.setLr v).intl = s.intl := rfl
@[simp] theorem State.setLr_ports (v : Nibble) : (s.setLr v).ports = s.ports := rfl
@[simp] theorem State.setLr_cmds (v : Nibble) : (s.setLr v).cmds = s.cmds := rfl
@[simp] theorem State.setLr_divider (v : Nibble) : (s.setLr v).divider = s.divider := rfl
@[simp] theorem State.setLr_sio (v : Nibble) : (s.setLr v).sio = s.sio := rfl
@[simp] theorem State.setLr_cntl1 (v : Nibble) : (s.setLr v).cntl1 = s.cntl1 := rfl
@[simp] theorem State.setLr_cntl2 (v : Nibble) : (s.setLr v).cntl2 = s.cntl2 := rfl
@[simp] theorem State.setLr_prev (v : Nibble) : (s.setLr v).prev = s.prev := rfl
@[simp] theorem State.setLr_env (v : Nibble) : (s.setLr v).env = s.env := rfl
@[simp] theorem State.setLr_inputs (v : Nibble) : (s.setLr v).inputs = s.inputs := rfl
@[simp] theorem State.setLr_freeCount (v : Nibble) : (s.setLr v).freeCount = s.freeCount := rfl
@[simp] theorem State.setCf_pc (v : Bool) : (s.setCf v).pc = s.pc := rfl
@[simp] theorem State.setCf_ac (v : Bool) : (s.setCf v).ac = s.ac := rfl
@[simp] theorem State.setCf_hr (v : Bool) : (s.setCf v).hr = s.hr := rfl
@[simp] theorem State.setCf_lr (v : Bool) : (s.setCf v).lr = s.lr := rfl
@[simp] theorem State.setCf_cf (v : Bool) : (s.setCf v).cf = v := rfl
@[simp] theorem State.setCf_zf (v : Bool) : (s.setCf v).zf = s.zf := rfl
@[simp] theorem State.setCf_sf (v : Bool) : (s.setCf v).sf = s.sf := rfl
@[simp] theorem State.setCf_gf (v : Bool) : (s.setCf v).gf = s.gf := rfl
@[simp] theorem State.setCf_rom (v : Bool) : (s.setCf v).rom = s.rom := rfl
@[simp] theorem State.setCf_ram (v : Bool) : (s.setCf v).ram = s.ram := rfl
@[simp] theorem State.setCf_part (v : Bool) : (s.setCf v).part = s.part := rfl
@[simp] theorem State.setCf_ioCode (v : Bool) : (s.setCf v).ioCode = s.ioCode := rfl
@[simp] theorem State.setCf_eif (v : Bool) : (s.setCf v).eif = s.eif := rfl
@[simp] theorem State.setCf_eir (v : Bool) : (s.setCf v).eir = s.eir := rfl
@[simp] theorem State.setCf_intl (v : Bool) : (s.setCf v).intl = s.intl := rfl
@[simp] theorem State.setCf_ports (v : Bool) : (s.setCf v).ports = s.ports := rfl
@[simp] theorem State.setCf_cmds (v : Bool) : (s.setCf v).cmds = s.cmds := rfl
@[simp] theorem State.setCf_divider (v : Bool) : (s.setCf v).divider = s.divider := rfl
@[simp] theorem State.setCf_sio (v : Bool) : (s.setCf v).sio = s.sio := rfl
@[simp] theorem State.setCf_cntl1 (v : Bool) : (s.setCf v).cntl1 = s.cntl1 := rfl
@[simp] theorem State.setCf_cntl2 (v : Bool) : (s.setCf v).cntl2 = s.cntl2 := rfl
@[simp] theorem State.setCf_prev (v : Bool) : (s.setCf v).prev = s.prev := rfl
@[simp] theorem State.setCf_env (v : Bool) : (s.setCf v).env = s.env := rfl
@[simp] theorem State.setCf_inputs (v : Bool) : (s.setCf v).inputs = s.inputs := rfl
@[simp] theorem State.setCf_freeCount (v : Bool) : (s.setCf v).freeCount = s.freeCount := rfl
@[simp] theorem State.setZf_pc (v : Bool) : (s.setZf v).pc = s.pc := rfl
@[simp] theorem State.setZf_ac (v : Bool) : (s.setZf v).ac = s.ac := rfl
@[simp] theorem State.setZf_hr (v : Bool) : (s.setZf v).hr = s.hr := rfl
@[simp] theorem State.setZf_lr (v : Bool) : (s.setZf v).lr = s.lr := rfl
@[simp] theorem State.setZf_cf (v : Bool) : (s.setZf v).cf = s.cf := rfl
@[simp] theorem State.setZf_zf (v : Bool) : (s.setZf v).zf = v := rfl
@[simp] theorem State.setZf_sf (v : Bool) : (s.setZf v).sf = s.sf := rfl
@[simp] theorem State.setZf_gf (v : Bool) : (s.setZf v).gf = s.gf := rfl
@[simp] theorem State.setZf_rom (v : Bool) : (s.setZf v).rom = s.rom := rfl
@[simp] theorem State.setZf_ram (v : Bool) : (s.setZf v).ram = s.ram := rfl
@[simp] theorem State.setZf_part (v : Bool) : (s.setZf v).part = s.part := rfl
@[simp] theorem State.setZf_ioCode (v : Bool) : (s.setZf v).ioCode = s.ioCode := rfl
@[simp] theorem State.setZf_eif (v : Bool) : (s.setZf v).eif = s.eif := rfl
@[simp] theorem State.setZf_eir (v : Bool) : (s.setZf v).eir = s.eir := rfl
@[simp] theorem State.setZf_intl (v : Bool) : (s.setZf v).intl = s.intl := rfl
@[simp] theorem State.setZf_ports (v : Bool) : (s.setZf v).ports = s.ports := rfl
@[simp] theorem State.setZf_cmds (v : Bool) : (s.setZf v).cmds = s.cmds := rfl
@[simp] theorem State.setZf_divider (v : Bool) : (s.setZf v).divider = s.divider := rfl
@[simp] theorem State.setZf_sio (v : Bool) : (s.setZf v).sio = s.sio := rfl
@[simp] theorem State.setZf_cntl1 (v : Bool) : (s.setZf v).cntl1 = s.cntl1 := rfl
@[simp] theorem State.setZf_cntl2 (v : Bool) : (s.setZf v).cntl2 = s.cntl2 := rfl
@[simp] theorem State.setZf_prev (v : Bool) : (s.setZf v).prev = s.prev := rfl
@[simp] theorem State.setZf_env (v : Bool) : (s.setZf v).env = s.env := rfl
@[simp] theorem State.setZf_inputs (v : Bool) : (s.setZf v).inputs = s.inputs := rfl
@[simp] theorem State.setZf_freeCount (v : Bool) : (s.setZf v).freeCount = s.freeCount := rfl
@[simp] theorem State.setSf_pc (v : Bool) : (s.setSf v).pc = s.pc := rfl
@[simp] theorem State.setSf_ac (v : Bool) : (s.setSf v).ac = s.ac := rfl
@[simp] theorem State.setSf_hr (v : Bool) : (s.setSf v).hr = s.hr := rfl
@[simp] theorem State.setSf_lr (v : Bool) : (s.setSf v).lr = s.lr := rfl
@[simp] theorem State.setSf_cf (v : Bool) : (s.setSf v).cf = s.cf := rfl
@[simp] theorem State.setSf_zf (v : Bool) : (s.setSf v).zf = s.zf := rfl
@[simp] theorem State.setSf_sf (v : Bool) : (s.setSf v).sf = v := rfl
@[simp] theorem State.setSf_gf (v : Bool) : (s.setSf v).gf = s.gf := rfl
@[simp] theorem State.setSf_rom (v : Bool) : (s.setSf v).rom = s.rom := rfl
@[simp] theorem State.setSf_ram (v : Bool) : (s.setSf v).ram = s.ram := rfl
@[simp] theorem State.setSf_part (v : Bool) : (s.setSf v).part = s.part := rfl
@[simp] theorem State.setSf_ioCode (v : Bool) : (s.setSf v).ioCode = s.ioCode := rfl
@[simp] theorem State.setSf_eif (v : Bool) : (s.setSf v).eif = s.eif := rfl
@[simp] theorem State.setSf_eir (v : Bool) : (s.setSf v).eir = s.eir := rfl
@[simp] theorem State.setSf_intl (v : Bool) : (s.setSf v).intl = s.intl := rfl
@[simp] theorem State.setSf_ports (v : Bool) : (s.setSf v).ports = s.ports := rfl
@[simp] theorem State.setSf_cmds (v : Bool) : (s.setSf v).cmds = s.cmds := rfl
@[simp] theorem State.setSf_divider (v : Bool) : (s.setSf v).divider = s.divider := rfl
@[simp] theorem State.setSf_sio (v : Bool) : (s.setSf v).sio = s.sio := rfl
@[simp] theorem State.setSf_cntl1 (v : Bool) : (s.setSf v).cntl1 = s.cntl1 := rfl
@[simp] theorem State.setSf_cntl2 (v : Bool) : (s.setSf v).cntl2 = s.cntl2 := rfl
@[simp] theorem State.setSf_prev (v : Bool) : (s.setSf v).prev = s.prev := rfl
@[simp] theorem State.setSf_env (v : Bool) : (s.setSf v).env = s.env := rfl
@[simp] theorem State.setSf_inputs (v : Bool) : (s.setSf v).inputs = s.inputs := rfl
@[simp] theorem State.setSf_freeCount (v : Bool) : (s.setSf v).freeCount = s.freeCount := rfl
@[simp] theorem State.setGf_pc (v : Bool) : (s.setGf v).pc = s.pc := rfl
@[simp] theorem State.setGf_ac (v : Bool) : (s.setGf v).ac = s.ac := rfl
@[simp] theorem State.setGf_hr (v : Bool) : (s.setGf v).hr = s.hr := rfl
@[simp] theorem State.setGf_lr (v : Bool) : (s.setGf v).lr = s.lr := rfl
@[simp] theorem State.setGf_cf (v : Bool) : (s.setGf v).cf = s.cf := rfl
@[simp] theorem State.setGf_zf (v : Bool) : (s.setGf v).zf = s.zf := rfl
@[simp] theorem State.setGf_sf (v : Bool) : (s.setGf v).sf = s.sf := rfl
@[simp] theorem State.setGf_gf (v : Bool) : (s.setGf v).gf = v := rfl
@[simp] theorem State.setGf_rom (v : Bool) : (s.setGf v).rom = s.rom := rfl
@[simp] theorem State.setGf_ram (v : Bool) : (s.setGf v).ram = s.ram := rfl
@[simp] theorem State.setGf_part (v : Bool) : (s.setGf v).part = s.part := rfl
@[simp] theorem State.setGf_ioCode (v : Bool) : (s.setGf v).ioCode = s.ioCode := rfl
@[simp] theorem State.setGf_eif (v : Bool) : (s.setGf v).eif = s.eif := rfl
@[simp] theorem State.setGf_eir (v : Bool) : (s.setGf v).eir = s.eir := rfl
@[simp] theorem State.setGf_intl (v : Bool) : (s.setGf v).intl = s.intl := rfl
@[simp] theorem State.setGf_ports (v : Bool) : (s.setGf v).ports = s.ports := rfl
@[simp] theorem State.setGf_cmds (v : Bool) : (s.setGf v).cmds = s.cmds := rfl
@[simp] theorem State.setGf_divider (v : Bool) : (s.setGf v).divider = s.divider := rfl
@[simp] theorem State.setGf_sio (v : Bool) : (s.setGf v).sio = s.sio := rfl
@[simp] theorem State.setGf_cntl1 (v : Bool) : (s.setGf v).cntl1 = s.cntl1 := rfl
@[simp] theorem State.setGf_cntl2 (v : Bool) : (s.setGf v).cntl2 = s.cntl2 := rfl
@[simp] theorem State.setGf_prev (v : Bool) : (s.setGf v).prev = s.prev := rfl
@[simp] theorem State.setGf_env (v : Bool) : (s.setGf v).env = s.env := rfl
@[simp] theorem State.setGf_inputs (v : Bool) : (s.setGf v).inputs = s.inputs := rfl
@[simp] theorem State.setGf_freeCount (v : Bool) : (s.setGf v).freeCount = s.freeCount := rfl
@[simp] theorem State.setRom_pc (v : Memory 8) : (s.setRom v).pc = s.pc := rfl
@[simp] theorem State.setRom_ac (v : Memory 8) : (s.setRom v).ac = s.ac := rfl
@[simp] theorem State.setRom_hr (v : Memory 8) : (s.setRom v).hr = s.hr := rfl
@[simp] theorem State.setRom_lr (v : Memory 8) : (s.setRom v).lr = s.lr := rfl
@[simp] theorem State.setRom_cf (v : Memory 8) : (s.setRom v).cf = s.cf := rfl
@[simp] theorem State.setRom_zf (v : Memory 8) : (s.setRom v).zf = s.zf := rfl
@[simp] theorem State.setRom_sf (v : Memory 8) : (s.setRom v).sf = s.sf := rfl
@[simp] theorem State.setRom_gf (v : Memory 8) : (s.setRom v).gf = s.gf := rfl
@[simp] theorem State.setRom_rom (v : Memory 8) : (s.setRom v).rom = v := rfl
@[simp] theorem State.setRom_ram (v : Memory 8) : (s.setRom v).ram = s.ram := rfl
@[simp] theorem State.setRom_part (v : Memory 8) : (s.setRom v).part = s.part := rfl
@[simp] theorem State.setRom_ioCode (v : Memory 8) : (s.setRom v).ioCode = s.ioCode := rfl
@[simp] theorem State.setRom_eif (v : Memory 8) : (s.setRom v).eif = s.eif := rfl
@[simp] theorem State.setRom_eir (v : Memory 8) : (s.setRom v).eir = s.eir := rfl
@[simp] theorem State.setRom_intl (v : Memory 8) : (s.setRom v).intl = s.intl := rfl
@[simp] theorem State.setRom_ports (v : Memory 8) : (s.setRom v).ports = s.ports := rfl
@[simp] theorem State.setRom_cmds (v : Memory 8) : (s.setRom v).cmds = s.cmds := rfl
@[simp] theorem State.setRom_divider (v : Memory 8) : (s.setRom v).divider = s.divider := rfl
@[simp] theorem State.setRom_sio (v : Memory 8) : (s.setRom v).sio = s.sio := rfl
@[simp] theorem State.setRom_cntl1 (v : Memory 8) : (s.setRom v).cntl1 = s.cntl1 := rfl
@[simp] theorem State.setRom_cntl2 (v : Memory 8) : (s.setRom v).cntl2 = s.cntl2 := rfl
@[simp] theorem State.setRom_prev (v : Memory 8) : (s.setRom v).prev = s.prev := rfl
@[simp] theorem State.setRom_env (v : Memory 8) : (s.setRom v).env = s.env := rfl
@[simp] theorem State.setRom_inputs (v : Memory 8) : (s.setRom v).inputs = s.inputs := rfl
@[simp] theorem State.setRom_freeCount (v : Memory 8) : (s.setRom v).freeCount = s.freeCount := rfl
@[simp] theorem State.setRam_pc (v : Memory 4) : (s.setRam v).pc = s.pc := rfl
@[simp] theorem State.setRam_ac (v : Memory 4) : (s.setRam v).ac = s.ac := rfl
@[simp] theorem State.setRam_hr (v : Memory 4) : (s.setRam v).hr = s.hr := rfl
@[simp] theorem State.setRam_lr (v : Memory 4) : (s.setRam v).lr = s.lr := rfl
@[simp] theorem State.setRam_cf (v : Memory 4) : (s.setRam v).cf = s.cf := rfl
@[simp] theorem State.setRam_zf (v : Memory 4) : (s.setRam v).zf = s.zf := rfl
@[simp] theorem State.setRam_sf (v : Memory 4) : (s.setRam v).sf = s.sf := rfl
@[simp] theorem State.setRam_gf (v : Memory 4) : (s.setRam v).gf = s.gf := rfl
@[simp] theorem State.setRam_rom (v : Memory 4) : (s.setRam v).rom = s.rom := rfl
@[simp] theorem State.setRam_ram (v : Memory 4) : (s.setRam v).ram = v := rfl
@[simp] theorem State.setRam_part (v : Memory 4) : (s.setRam v).part = s.part := rfl
@[simp] theorem State.setRam_ioCode (v : Memory 4) : (s.setRam v).ioCode = s.ioCode := rfl
@[simp] theorem State.setRam_eif (v : Memory 4) : (s.setRam v).eif = s.eif := rfl
@[simp] theorem State.setRam_eir (v : Memory 4) : (s.setRam v).eir = s.eir := rfl
@[simp] theorem State.setRam_intl (v : Memory 4) : (s.setRam v).intl = s.intl := rfl
@[simp] theorem State.setRam_ports (v : Memory 4) : (s.setRam v).ports = s.ports := rfl
@[simp] theorem State.setRam_cmds (v : Memory 4) : (s.setRam v).cmds = s.cmds := rfl
@[simp] theorem State.setRam_divider (v : Memory 4) : (s.setRam v).divider = s.divider := rfl
@[simp] theorem State.setRam_sio (v : Memory 4) : (s.setRam v).sio = s.sio := rfl
@[simp] theorem State.setRam_cntl1 (v : Memory 4) : (s.setRam v).cntl1 = s.cntl1 := rfl
@[simp] theorem State.setRam_cntl2 (v : Memory 4) : (s.setRam v).cntl2 = s.cntl2 := rfl
@[simp] theorem State.setRam_prev (v : Memory 4) : (s.setRam v).prev = s.prev := rfl
@[simp] theorem State.setRam_env (v : Memory 4) : (s.setRam v).env = s.env := rfl
@[simp] theorem State.setRam_inputs (v : Memory 4) : (s.setRam v).inputs = s.inputs := rfl
@[simp] theorem State.setRam_freeCount (v : Memory 4) : (s.setRam v).freeCount = s.freeCount := rfl
@[simp] theorem State.setEif_pc (v : Bool) : (s.setEif v).pc = s.pc := rfl
@[simp] theorem State.setEif_ac (v : Bool) : (s.setEif v).ac = s.ac := rfl
@[simp] theorem State.setEif_hr (v : Bool) : (s.setEif v).hr = s.hr := rfl
@[simp] theorem State.setEif_lr (v : Bool) : (s.setEif v).lr = s.lr := rfl
@[simp] theorem State.setEif_cf (v : Bool) : (s.setEif v).cf = s.cf := rfl
@[simp] theorem State.setEif_zf (v : Bool) : (s.setEif v).zf = s.zf := rfl
@[simp] theorem State.setEif_sf (v : Bool) : (s.setEif v).sf = s.sf := rfl
@[simp] theorem State.setEif_gf (v : Bool) : (s.setEif v).gf = s.gf := rfl
@[simp] theorem State.setEif_rom (v : Bool) : (s.setEif v).rom = s.rom := rfl
@[simp] theorem State.setEif_ram (v : Bool) : (s.setEif v).ram = s.ram := rfl
@[simp] theorem State.setEif_part (v : Bool) : (s.setEif v).part = s.part := rfl
@[simp] theorem State.setEif_ioCode (v : Bool) : (s.setEif v).ioCode = s.ioCode := rfl
@[simp] theorem State.setEif_eif (v : Bool) : (s.setEif v).eif = v := rfl
@[simp] theorem State.setEif_eir (v : Bool) : (s.setEif v).eir = s.eir := rfl
@[simp] theorem State.setEif_intl (v : Bool) : (s.setEif v).intl = s.intl := rfl
@[simp] theorem State.setEif_ports (v : Bool) : (s.setEif v).ports = s.ports := rfl
@[simp] theorem State.setEif_cmds (v : Bool) : (s.setEif v).cmds = s.cmds := rfl
@[simp] theorem State.setEif_divider (v : Bool) : (s.setEif v).divider = s.divider := rfl
@[simp] theorem State.setEif_sio (v : Bool) : (s.setEif v).sio = s.sio := rfl
@[simp] theorem State.setEif_cntl1 (v : Bool) : (s.setEif v).cntl1 = s.cntl1 := rfl
@[simp] theorem State.setEif_cntl2 (v : Bool) : (s.setEif v).cntl2 = s.cntl2 := rfl
@[simp] theorem State.setEif_prev (v : Bool) : (s.setEif v).prev = s.prev := rfl
@[simp] theorem State.setEif_env (v : Bool) : (s.setEif v).env = s.env := rfl
@[simp] theorem State.setEif_inputs (v : Bool) : (s.setEif v).inputs = s.inputs := rfl
@[simp] theorem State.setEif_freeCount (v : Bool) : (s.setEif v).freeCount = s.freeCount := rfl
@[simp] theorem State.setEir_pc (v : Nibble) : (s.setEir v).pc = s.pc := rfl
@[simp] theorem State.setEir_ac (v : Nibble) : (s.setEir v).ac = s.ac := rfl
@[simp] theorem State.setEir_hr (v : Nibble) : (s.setEir v).hr = s.hr := rfl
@[simp] theorem State.setEir_lr (v : Nibble) : (s.setEir v).lr = s.lr := rfl
@[simp] theorem State.setEir_cf (v : Nibble) : (s.setEir v).cf = s.cf := rfl
@[simp] theorem State.setEir_zf (v : Nibble) : (s.setEir v).zf = s.zf := rfl
@[simp] theorem State.setEir_sf (v : Nibble) : (s.setEir v).sf = s.sf := rfl
@[simp] theorem State.setEir_gf (v : Nibble) : (s.setEir v).gf = s.gf := rfl
@[simp] theorem State.setEir_rom (v : Nibble) : (s.setEir v).rom = s.rom := rfl
@[simp] theorem State.setEir_ram (v : Nibble) : (s.setEir v).ram = s.ram := rfl
@[simp] theorem State.setEir_part (v : Nibble) : (s.setEir v).part = s.part := rfl
@[simp] theorem State.setEir_ioCode (v : Nibble) : (s.setEir v).ioCode = s.ioCode := rfl
@[simp] theorem State.setEir_eif (v : Nibble) : (s.setEir v).eif = s.eif := rfl
@[simp] theorem State.setEir_eir (v : Nibble) : (s.setEir v).eir = v := rfl
@[simp] theorem State.setEir_intl (v : Nibble) : (s.setEir v).intl = s.intl := rfl
@[simp] theorem State.setEir_ports (v : Nibble) : (s.setEir v).ports = s.ports := rfl
@[simp] theorem State.setEir_cmds (v : Nibble) : (s.setEir v).cmds = s.cmds := rfl
@[simp] theorem State.setEir_divider (v : Nibble) : (s.setEir v).divider = s.divider := rfl
@[simp] theorem State.setEir_sio (v : Nibble) : (s.setEir v).sio = s.sio := rfl
@[simp] theorem State.setEir_cntl1 (v : Nibble) : (s.setEir v).cntl1 = s.cntl1 := rfl
@[simp] theorem State.setEir_cntl2 (v : Nibble) : (s.setEir v).cntl2 = s.cntl2 := rfl
@[simp] theorem State.setEir_prev (v : Nibble) : (s.setEir v).prev = s.prev := rfl
@[simp] theorem State.setEir_env (v : Nibble) : (s.setEir v).env = s.env := rfl
@[simp] theorem State.setEir_inputs (v : Nibble) : (s.setEir v).inputs = s.inputs := rfl
@[simp] theorem State.setEir_freeCount (v : Nibble) : (s.setEir v).freeCount = s.freeCount := rfl
@[simp] theorem State.setIntl_pc (v : BitVec 6) : (s.setIntl v).pc = s.pc := rfl
@[simp] theorem State.setIntl_ac (v : BitVec 6) : (s.setIntl v).ac = s.ac := rfl
@[simp] theorem State.setIntl_hr (v : BitVec 6) : (s.setIntl v).hr = s.hr := rfl
@[simp] theorem State.setIntl_lr (v : BitVec 6) : (s.setIntl v).lr = s.lr := rfl
@[simp] theorem State.setIntl_cf (v : BitVec 6) : (s.setIntl v).cf = s.cf := rfl
@[simp] theorem State.setIntl_zf (v : BitVec 6) : (s.setIntl v).zf = s.zf := rfl
@[simp] theorem State.setIntl_sf (v : BitVec 6) : (s.setIntl v).sf = s.sf := rfl
@[simp] theorem State.setIntl_gf (v : BitVec 6) : (s.setIntl v).gf = s.gf := rfl
@[simp] theorem State.setIntl_rom (v : BitVec 6) : (s.setIntl v).rom = s.rom := rfl
@[simp] theorem State.setIntl_ram (v : BitVec 6) : (s.setIntl v).ram = s.ram := rfl
@[simp] theorem State.setIntl_part (v : BitVec 6) : (s.setIntl v).part = s.part := rfl
@[simp] theorem State.setIntl_ioCode (v : BitVec 6) : (s.setIntl v).ioCode = s.ioCode := rfl
@[simp] theorem State.setIntl_eif (v : BitVec 6) : (s.setIntl v).eif = s.eif := rfl
@[simp] theorem State.setIntl_eir (v : BitVec 6) : (s.setIntl v).eir = s.eir := rfl
@[simp] theorem State.setIntl_intl (v : BitVec 6) : (s.setIntl v).intl = v := rfl
@[simp] theorem State.setIntl_ports (v : BitVec 6) : (s.setIntl v).ports = s.ports := rfl
@[simp] theorem State.setIntl_cmds (v : BitVec 6) : (s.setIntl v).cmds = s.cmds := rfl
@[simp] theorem State.setIntl_divider (v : BitVec 6) : (s.setIntl v).divider = s.divider := rfl
@[simp] theorem State.setIntl_sio (v : BitVec 6) : (s.setIntl v).sio = s.sio := rfl
@[simp] theorem State.setIntl_cntl1 (v : BitVec 6) : (s.setIntl v).cntl1 = s.cntl1 := rfl
@[simp] theorem State.setIntl_cntl2 (v : BitVec 6) : (s.setIntl v).cntl2 = s.cntl2 := rfl
@[simp] theorem State.setIntl_prev (v : BitVec 6) : (s.setIntl v).prev = s.prev := rfl
@[simp] theorem State.setIntl_env (v : BitVec 6) : (s.setIntl v).env = s.env := rfl
@[simp] theorem State.setIntl_inputs (v : BitVec 6) : (s.setIntl v).inputs = s.inputs := rfl
@[simp] theorem State.setIntl_freeCount (v : BitVec 6) : (s.setIntl v).freeCount = s.freeCount := rfl
@[simp] theorem State.setPorts_pc (v : Ports) : (s.setPorts v).pc = s.pc := rfl
@[simp] theorem State.setPorts_ac (v : Ports) : (s.setPorts v).ac = s.ac := rfl
@[simp] theorem State.setPorts_hr (v : Ports) : (s.setPorts v).hr = s.hr := rfl
@[simp] theorem State.setPorts_lr (v : Ports) : (s.setPorts v).lr = s.lr := rfl
@[simp] theorem State.setPorts_cf (v : Ports) : (s.setPorts v).cf = s.cf := rfl
@[simp] theorem State.setPorts_zf (v : Ports) : (s.setPorts v).zf = s.zf := rfl
@[simp] theorem State.setPorts_sf (v : Ports) : (s.setPorts v).sf = s.sf := rfl
@[simp] theorem State.setPorts_gf (v : Ports) : (s.setPorts v).gf = s.gf := rfl
@[simp] theorem State.setPorts_rom (v : Ports) : (s.setPorts v).rom = s.rom := rfl
@[simp] theorem State.setPorts_ram (v : Ports) : (s.setPorts v).ram = s.ram := rfl
@[simp] theorem State.setPorts_part (v : Ports) : (s.setPorts v).part = s.part := rfl
@[simp] theorem State.setPorts_ioCode (v : Ports) : (s.setPorts v).ioCode = s.ioCode := rfl
@[simp] theorem State.setPorts_eif (v : Ports) : (s.setPorts v).eif = s.eif := rfl
@[simp] theorem State.setPorts_eir (v : Ports) : (s.setPorts v).eir = s.eir := rfl
@[simp] theorem State.setPorts_intl (v : Ports) : (s.setPorts v).intl = s.intl := rfl
@[simp] theorem State.setPorts_ports (v : Ports) : (s.setPorts v).ports = v := rfl
@[simp] theorem State.setPorts_cmds (v : Ports) : (s.setPorts v).cmds = s.cmds := rfl
@[simp] theorem State.setPorts_divider (v : Ports) : (s.setPorts v).divider = s.divider := rfl
@[simp] theorem State.setPorts_sio (v : Ports) : (s.setPorts v).sio = s.sio := rfl
@[simp] theorem State.setPorts_cntl1 (v : Ports) : (s.setPorts v).cntl1 = s.cntl1 := rfl
@[simp] theorem State.setPorts_cntl2 (v : Ports) : (s.setPorts v).cntl2 = s.cntl2 := rfl
@[simp] theorem State.setPorts_prev (v : Ports) : (s.setPorts v).prev = s.prev := rfl
@[simp] theorem State.setPorts_env (v : Ports) : (s.setPorts v).env = s.env := rfl
@[simp] theorem State.setPorts_inputs (v : Ports) : (s.setPorts v).inputs = s.inputs := rfl
@[simp] theorem State.setPorts_freeCount (v : Ports) : (s.setPorts v).freeCount = s.freeCount := rfl
@[simp] theorem State.setCmds_pc (v : Commands) : (s.setCmds v).pc = s.pc := rfl
@[simp] theorem State.setCmds_ac (v : Commands) : (s.setCmds v).ac = s.ac := rfl
@[simp] theorem State.setCmds_hr (v : Commands) : (s.setCmds v).hr = s.hr := rfl
@[simp] theorem State.setCmds_lr (v : Commands) : (s.setCmds v).lr = s.lr := rfl
@[simp] theorem State.setCmds_cf (v : Commands) : (s.setCmds v).cf = s.cf := rfl
@[simp] theorem State.setCmds_zf (v : Commands) : (s.setCmds v).zf = s.zf := rfl
@[simp] theorem State.setCmds_sf (v : Commands) : (s.setCmds v).sf = s.sf := rfl
@[simp] theorem State.setCmds_gf (v : Commands) : (s.setCmds v).gf = s.gf := rfl
@[simp] theorem State.setCmds_rom (v : Commands) : (s.setCmds v).rom = s.rom := rfl
@[simp] theorem State.setCmds_ram (v : Commands) : (s.setCmds v).ram = s.ram := rfl
@[simp] theorem State.setCmds_part (v : Commands) : (s.setCmds v).part = s.part := rfl
@[simp] theorem State.setCmds_ioCode (v : Commands) : (s.setCmds v).ioCode = s.ioCode := rfl
@[simp] theorem State.setCmds_eif (v : Commands) : (s.setCmds v).eif = s.eif := rfl
@[simp] theorem State.setCmds_eir (v : Commands) : (s.setCmds v).eir = s.eir := rfl
@[simp] theorem State.setCmds_intl (v : Commands) : (s.setCmds v).intl = s.intl := rfl
@[simp] theorem State.setCmds_ports (v : Commands) : (s.setCmds v).ports = s.ports := rfl
@[simp] theorem State.setCmds_cmds (v : Commands) : (s.setCmds v).cmds = v := rfl
@[simp] theorem State.setCmds_divider (v : Commands) : (s.setCmds v).divider = s.divider := rfl
@[simp] theorem State.setCmds_sio (v : Commands) : (s.setCmds v).sio = s.sio := rfl
@[simp] theorem State.setCmds_cntl1 (v : Commands) : (s.setCmds v).cntl1 = s.cntl1 := rfl
@[simp] theorem State.setCmds_cntl2 (v : Commands) : (s.setCmds v).cntl2 = s.cntl2 := rfl
@[simp] theorem State.setCmds_prev (v : Commands) : (s.setCmds v).prev = s.prev := rfl
@[simp] theorem State.setCmds_env (v : Commands) : (s.setCmds v).env = s.env := rfl
@[simp] theorem State.setCmds_inputs (v : Commands) : (s.setCmds v).inputs = s.inputs := rfl
@[simp] theorem State.setCmds_freeCount (v : Commands) : (s.setCmds v).freeCount = s.freeCount := rfl
@[simp] theorem State.setDivider_pc (v : BitVec 19) : (s.setDivider v).pc = s.pc := rfl
@[simp] theorem State.setDivider_ac (v : BitVec 19) : (s.setDivider v).ac = s.ac := rfl
@[simp] theorem State.setDivider_hr (v : BitVec 19) : (s.setDivider v).hr = s.hr := rfl
@[simp] theorem State.setDivider_lr (v : BitVec 19) : (s.setDivider v).lr = s.lr := rfl
@[simp] theorem State.setDivider_cf (v : BitVec 19) : (s.setDivider v).cf = s.cf := rfl
@[simp] theorem State.setDivider_zf (v : BitVec 19) : (s.setDivider v).zf = s.zf := rfl
@[simp] theorem State.setDivider_sf (v : BitVec 19) : (s.setDivider v).sf = s.sf := rfl
@[simp] theorem State.setDivider_gf (v : BitVec 19) : (s.setDivider v).gf = s.gf := rfl
@[simp] theorem State.setDivider_rom (v : BitVec 19) : (s.setDivider v).rom = s.rom := rfl
@[simp] theorem State.setDivider_ram (v : BitVec 19) : (s.setDivider v).ram = s.ram := rfl
@[simp] theorem State.setDivider_part (v : BitVec 19) : (s.setDivider v).part = s.part := rfl
@[simp] theorem State.setDivider_ioCode (v : BitVec 19) : (s.setDivider v).ioCode = s.ioCode := rfl
@[simp] theorem State.setDivider_eif (v : BitVec 19) : (s.setDivider v).eif = s.eif := rfl
@[simp] theorem State.setDivider_eir (v : BitVec 19) : (s.setDivider v).eir = s.eir := rfl
@[simp] theorem State.setDivider_intl (v : BitVec 19) : (s.setDivider v).intl = s.intl := rfl
@[simp] theorem State.setDivider_ports (v : BitVec 19) : (s.setDivider v).ports = s.ports := rfl
@[simp] theorem State.setDivider_cmds (v : BitVec 19) : (s.setDivider v).cmds = s.cmds := rfl
@[simp] theorem State.setDivider_divider (v : BitVec 19) : (s.setDivider v).divider = v := rfl
@[simp] theorem State.setDivider_sio (v : BitVec 19) : (s.setDivider v).sio = s.sio := rfl
@[simp] theorem State.setDivider_cntl1 (v : BitVec 19) : (s.setDivider v).cntl1 = s.cntl1 := rfl
@[simp] theorem State.setDivider_cntl2 (v : BitVec 19) : (s.setDivider v).cntl2 = s.cntl2 := rfl
@[simp] theorem State.setDivider_prev (v : BitVec 19) : (s.setDivider v).prev = s.prev := rfl
@[simp] theorem State.setDivider_env (v : BitVec 19) : (s.setDivider v).env = s.env := rfl
@[simp] theorem State.setDivider_inputs (v : BitVec 19) : (s.setDivider v).inputs = s.inputs := rfl
@[simp] theorem State.setDivider_freeCount (v : BitVec 19) : (s.setDivider v).freeCount = s.freeCount := rfl
@[simp] theorem State.setSio_pc (v : Serial) : (s.setSio v).pc = s.pc := rfl
@[simp] theorem State.setSio_ac (v : Serial) : (s.setSio v).ac = s.ac := rfl
@[simp] theorem State.setSio_hr (v : Serial) : (s.setSio v).hr = s.hr := rfl
@[simp] theorem State.setSio_lr (v : Serial) : (s.setSio v).lr = s.lr := rfl
@[simp] theorem State.setSio_cf (v : Serial) : (s.setSio v).cf = s.cf := rfl
@[simp] theorem State.setSio_zf (v : Serial) : (s.setSio v).zf = s.zf := rfl
@[simp] theorem State.setSio_sf (v : Serial) : (s.setSio v).sf = s.sf := rfl
@[simp] theorem State.setSio_gf (v : Serial) : (s.setSio v).gf = s.gf := rfl
@[simp] theorem State.setSio_rom (v : Serial) : (s.setSio v).rom = s.rom := rfl
@[simp] theorem State.setSio_ram (v : Serial) : (s.setSio v).ram = s.ram := rfl
@[simp] theorem State.setSio_part (v : Serial) : (s.setSio v).part = s.part := rfl
@[simp] theorem State.setSio_ioCode (v : Serial) : (s.setSio v).ioCode = s.ioCode := rfl
@[simp] theorem State.setSio_eif (v : Serial) : (s.setSio v).eif = s.eif := rfl
@[simp] theorem State.setSio_eir (v : Serial) : (s.setSio v).eir = s.eir := rfl
@[simp] theorem State.setSio_intl (v : Serial) : (s.setSio v).intl = s.intl := rfl
@[simp] theorem State.setSio_ports (v : Serial) : (s.setSio v).ports = s.ports := rfl
@[simp] theorem State.setSio_cmds (v : Serial) : (s.setSio v).cmds = s.cmds := rfl
@[simp] theorem State.setSio_divider (v : Serial) : (s.setSio v).divider = s.divider := rfl
@[simp] theorem State.setSio_sio (v : Serial) : (s.setSio v).sio = v := rfl
@[simp] theorem State.setSio_cntl1 (v : Serial) : (s.setSio v).cntl1 = s.cntl1 := rfl
@[simp] theorem State.setSio_cntl2 (v : Serial) : (s.setSio v).cntl2 = s.cntl2 := rfl
@[simp] theorem State.setSio_prev (v : Serial) : (s.setSio v).prev = s.prev := rfl
@[simp] theorem State.setSio_env (v : Serial) : (s.setSio v).env = s.env := rfl
@[simp] theorem State.setSio_inputs (v : Serial) : (s.setSio v).inputs = s.inputs := rfl
@[simp] theorem State.setSio_freeCount (v : Serial) : (s.setSio v).freeCount = s.freeCount := rfl
@[simp] theorem State.setCntl1_pc (v : Bool) : (s.setCntl1 v).pc = s.pc := rfl
@[simp] theorem State.setCntl1_ac (v : Bool) : (s.setCntl1 v).ac = s.ac := rfl
@[simp] theorem State.setCntl1_hr (v : Bool) : (s.setCntl1 v).hr = s.hr := rfl
@[simp] theorem State.setCntl1_lr (v : Bool) : (s.setCntl1 v).lr = s.lr := rfl
@[simp] theorem State.setCntl1_cf (v : Bool) : (s.setCntl1 v).cf = s.cf := rfl
@[simp] theorem State.setCntl1_zf (v : Bool) : (s.setCntl1 v).zf = s.zf := rfl
@[simp] theorem State.setCntl1_sf (v : Bool) : (s.setCntl1 v).sf = s.sf := rfl
@[simp] theorem State.setCntl1_gf (v : Bool) : (s.setCntl1 v).gf = s.gf := rfl
@[simp] theorem State.setCntl1_rom (v : Bool) : (s.setCntl1 v).rom = s.rom := rfl
@[simp] theorem State.setCntl1_ram (v : Bool) : (s.setCntl1 v).ram = s.ram := rfl
@[simp] theorem State.setCntl1_part (v : Bool) : (s.setCntl1 v).part = s.part := rfl
@[simp] theorem State.setCntl1_ioCode (v : Bool) : (s.setCntl1 v).ioCode = s.ioCode := rfl
@[simp] theorem State.setCntl1_eif (v : Bool) : (s.setCntl1 v).eif = s.eif := rfl
@[simp] theorem State.setCntl1_eir (v : Bool) : (s.setCntl1 v).eir = s.eir := rfl
@[simp] theorem State.setCntl1_intl (v : Bool) : (s.setCntl1 v).intl = s.intl := rfl
@[simp] theorem State.setCntl1_ports (v : Bool) : (s.setCntl1 v).ports = s.ports := rfl
@[simp] theorem State.setCntl1_cmds (v : Bool) : (s.setCntl1 v).cmds = s.cmds := rfl
@[simp] theorem State.setCntl1_divider (v : Bool) : (s.setCntl1 v).divider = s.divider := rfl
@[simp] theorem State.setCntl1_sio (v : Bool) : (s.setCntl1 v).sio = s.sio := rfl
@[simp] theorem State.setCntl1_cntl1 (v : Bool) : (s.setCntl1 v).cntl1 = v := rfl
@[simp] theorem State.setCntl1_cntl2 (v : Bool) : (s.setCntl1 v).cntl2 = s.cntl2 := rfl
@[simp] theorem State.setCntl1_prev (v : Bool) : (s.setCntl1 v).prev = s.prev := rfl
@[simp] theorem State.setCntl1_env (v : Bool) : (s.setCntl1 v).env = s.env := rfl
@[simp] theorem State.setCntl1_inputs (v : Bool) : (s.setCntl1 v).inputs = s.inputs := rfl
@[simp] theorem State.setCntl1_freeCount (v : Bool) : (s.setCntl1 v).freeCount = s.freeCount := rfl
@[simp] theorem State.setCntl2_pc (v : Bool) : (s.setCntl2 v).pc = s.pc := rfl
@[simp] theorem State.setCntl2_ac (v : Bool) : (s.setCntl2 v).ac = s.ac := rfl
@[simp] theorem State.setCntl2_hr (v : Bool) : (s.setCntl2 v).hr = s.hr := rfl
@[simp] theorem State.setCntl2_lr (v : Bool) : (s.setCntl2 v).lr = s.lr := rfl
@[simp] theorem State.setCntl2_cf (v : Bool) : (s.setCntl2 v).cf = s.cf := rfl
@[simp] theorem State.setCntl2_zf (v : Bool) : (s.setCntl2 v).zf = s.zf := rfl
@[simp] theorem State.setCntl2_sf (v : Bool) : (s.setCntl2 v).sf = s.sf := rfl
@[simp] theorem State.setCntl2_gf (v : Bool) : (s.setCntl2 v).gf = s.gf := rfl
@[simp] theorem State.setCntl2_rom (v : Bool) : (s.setCntl2 v).rom = s.rom := rfl
@[simp] theorem State.setCntl2_ram (v : Bool) : (s.setCntl2 v).ram = s.ram := rfl
@[simp] theorem State.setCntl2_part (v : Bool) : (s.setCntl2 v).part = s.part := rfl
@[simp] theorem State.setCntl2_ioCode (v : Bool) : (s.setCntl2 v).ioCode = s.ioCode := rfl
@[simp] theorem State.setCntl2_eif (v : Bool) : (s.setCntl2 v).eif = s.eif := rfl
@[simp] theorem State.setCntl2_eir (v : Bool) : (s.setCntl2 v).eir = s.eir := rfl
@[simp] theorem State.setCntl2_intl (v : Bool) : (s.setCntl2 v).intl = s.intl := rfl
@[simp] theorem State.setCntl2_ports (v : Bool) : (s.setCntl2 v).ports = s.ports := rfl
@[simp] theorem State.setCntl2_cmds (v : Bool) : (s.setCntl2 v).cmds = s.cmds := rfl
@[simp] theorem State.setCntl2_divider (v : Bool) : (s.setCntl2 v).divider = s.divider := rfl
@[simp] theorem State.setCntl2_sio (v : Bool) : (s.setCntl2 v).sio = s.sio := rfl
@[simp] theorem State.setCntl2_cntl1 (v : Bool) : (s.setCntl2 v).cntl1 = s.cntl1 := rfl
@[simp] theorem State.setCntl2_cntl2 (v : Bool) : (s.setCntl2 v).cntl2 = v := rfl
@[simp] theorem State.setCntl2_prev (v : Bool) : (s.setCntl2 v).prev = s.prev := rfl
@[simp] theorem State.setCntl2_env (v : Bool) : (s.setCntl2 v).env = s.env := rfl
@[simp] theorem State.setCntl2_inputs (v : Bool) : (s.setCntl2 v).inputs = s.inputs := rfl
@[simp] theorem State.setCntl2_freeCount (v : Bool) : (s.setCntl2 v).freeCount = s.freeCount := rfl
@[simp] theorem State.setPrev_pc (v : EdgePins) : (s.setPrev v).pc = s.pc := rfl
@[simp] theorem State.setPrev_ac (v : EdgePins) : (s.setPrev v).ac = s.ac := rfl
@[simp] theorem State.setPrev_hr (v : EdgePins) : (s.setPrev v).hr = s.hr := rfl
@[simp] theorem State.setPrev_lr (v : EdgePins) : (s.setPrev v).lr = s.lr := rfl
@[simp] theorem State.setPrev_cf (v : EdgePins) : (s.setPrev v).cf = s.cf := rfl
@[simp] theorem State.setPrev_zf (v : EdgePins) : (s.setPrev v).zf = s.zf := rfl
@[simp] theorem State.setPrev_sf (v : EdgePins) : (s.setPrev v).sf = s.sf := rfl
@[simp] theorem State.setPrev_gf (v : EdgePins) : (s.setPrev v).gf = s.gf := rfl
@[simp] theorem State.setPrev_rom (v : EdgePins) : (s.setPrev v).rom = s.rom := rfl
@[simp] theorem State.setPrev_ram (v : EdgePins) : (s.setPrev v).ram = s.ram := rfl
@[simp] theorem State.setPrev_part (v : EdgePins) : (s.setPrev v).part = s.part := rfl
@[simp] theorem State.setPrev_ioCode (v : EdgePins) : (s.setPrev v).ioCode = s.ioCode := rfl
@[simp] theorem State.setPrev_eif (v : EdgePins) : (s.setPrev v).eif = s.eif := rfl
@[simp] theorem State.setPrev_eir (v : EdgePins) : (s.setPrev v).eir = s.eir := rfl
@[simp] theorem State.setPrev_intl (v : EdgePins) : (s.setPrev v).intl = s.intl := rfl
@[simp] theorem State.setPrev_ports (v : EdgePins) : (s.setPrev v).ports = s.ports := rfl
@[simp] theorem State.setPrev_cmds (v : EdgePins) : (s.setPrev v).cmds = s.cmds := rfl
@[simp] theorem State.setPrev_divider (v : EdgePins) : (s.setPrev v).divider = s.divider := rfl
@[simp] theorem State.setPrev_sio (v : EdgePins) : (s.setPrev v).sio = s.sio := rfl
@[simp] theorem State.setPrev_cntl1 (v : EdgePins) : (s.setPrev v).cntl1 = s.cntl1 := rfl
@[simp] theorem State.setPrev_cntl2 (v : EdgePins) : (s.setPrev v).cntl2 = s.cntl2 := rfl
@[simp] theorem State.setPrev_prev (v : EdgePins) : (s.setPrev v).prev = v := rfl
@[simp] theorem State.setPrev_env (v : EdgePins) : (s.setPrev v).env = s.env := rfl
@[simp] theorem State.setPrev_inputs (v : EdgePins) : (s.setPrev v).inputs = s.inputs := rfl
@[simp] theorem State.setPrev_freeCount (v : EdgePins) : (s.setPrev v).freeCount = s.freeCount := rfl
@[simp] theorem State.setEnv_pc (v : Env) : (s.setEnv v).pc = s.pc := rfl
@[simp] theorem State.setEnv_ac (v : Env) : (s.setEnv v).ac = s.ac := rfl
@[simp] theorem State.setEnv_hr (v : Env) : (s.setEnv v).hr = s.hr := rfl
@[simp] theorem State.setEnv_lr (v : Env) : (s.setEnv v).lr = s.lr := rfl
@[simp] theorem State.setEnv_cf (v : Env) : (s.setEnv v).cf = s.cf := rfl
@[simp] theorem State.setEnv_zf (v : Env) : (s.setEnv v).zf = s.zf := rfl
@[simp] theorem State.setEnv_sf (v : Env) : (s.setEnv v).sf = s.sf := rfl
@[simp] theorem State.setEnv_gf (v : Env) : (s.setEnv v).gf = s.gf := rfl
@[simp] theorem State.setEnv_rom (v : Env) : (s.setEnv v).rom = s.rom := rfl
@[simp] theorem State.setEnv_ram (v : Env) : (s.setEnv v).ram = s.ram := rfl
@[simp] theorem State.setEnv_part (v : Env) : (s.setEnv v).part = s.part := rfl
@[simp] theorem State.setEnv_ioCode (v : Env) : (s.setEnv v).ioCode = s.ioCode := rfl
@[simp] theorem State.setEnv_eif (v : Env) : (s.setEnv v).eif = s.eif := rfl
@[simp] theorem State.setEnv_eir (v : Env) : (s.setEnv v).eir = s.eir := rfl
@[simp] theorem State.setEnv_intl (v : Env) : (s.setEnv v).intl = s.intl := rfl
@[simp] theorem State.setEnv_ports (v : Env) : (s.setEnv v).ports = s.ports := rfl
@[simp] theorem State.setEnv_cmds (v : Env) : (s.setEnv v).cmds = s.cmds := rfl
@[simp] theorem State.setEnv_divider (v : Env) : (s.setEnv v).divider = s.divider := rfl
@[simp] theorem State.setEnv_sio (v : Env) : (s.setEnv v).sio = s.sio := rfl
@[simp] theorem State.setEnv_cntl1 (v : Env) : (s.setEnv v).cntl1 = s.cntl1 := rfl
@[simp] theorem State.setEnv_cntl2 (v : Env) : (s.setEnv v).cntl2 = s.cntl2 := rfl
@[simp] theorem State.setEnv_prev (v : Env) : (s.setEnv v).prev = s.prev := rfl
@[simp] theorem State.setEnv_env (v : Env) : (s.setEnv v).env = v := rfl
@[simp] theorem State.setEnv_inputs (v : Env) : (s.setEnv v).inputs = s.inputs := rfl
@[simp] theorem State.setEnv_freeCount (v : Env) : (s.setEnv v).freeCount = s.freeCount := rfl
@[simp] theorem State.setInputs_pc (v : List Env) : (s.setInputs v).pc = s.pc := rfl
@[simp] theorem State.setInputs_ac (v : List Env) : (s.setInputs v).ac = s.ac := rfl
@[simp] theorem State.setInputs_hr (v : List Env) : (s.setInputs v).hr = s.hr := rfl
@[simp] theorem State.setInputs_lr (v : List Env) : (s.setInputs v).lr = s.lr := rfl
@[simp] theorem State.setInputs_cf (v : List Env) : (s.setInputs v).cf = s.cf := rfl
@[simp] theorem State.setInputs_zf (v : List Env) : (s.setInputs v).zf = s.zf := rfl
@[simp] theorem State.setInputs_sf (v : List Env) : (s.setInputs v).sf = s.sf := rfl
@[simp] theorem State.setInputs_gf (v : List Env) : (s.setInputs v).gf = s.gf := rfl
@[simp] theorem State.setInputs_rom (v : List Env) : (s.setInputs v).rom = s.rom := rfl
@[simp] theorem State.setInputs_ram (v : List Env) : (s.setInputs v).ram = s.ram := rfl
@[simp] theorem State.setInputs_part (v : List Env) : (s.setInputs v).part = s.part := rfl
@[simp] theorem State.setInputs_ioCode (v : List Env) : (s.setInputs v).ioCode = s.ioCode := rfl
@[simp] theorem State.setInputs_eif (v : List Env) : (s.setInputs v).eif = s.eif := rfl
@[simp] theorem State.setInputs_eir (v : List Env) : (s.setInputs v).eir = s.eir := rfl
@[simp] theorem State.setInputs_intl (v : List Env) : (s.setInputs v).intl = s.intl := rfl
@[simp] theorem State.setInputs_ports (v : List Env) : (s.setInputs v).ports = s.ports := rfl
@[simp] theorem State.setInputs_cmds (v : List Env) : (s.setInputs v).cmds = s.cmds := rfl
@[simp] theorem State.setInputs_divider (v : List Env) : (s.setInputs v).divider = s.divider := rfl
@[simp] theorem State.setInputs_sio (v : List Env) : (s.setInputs v).sio = s.sio := rfl
@[simp] theorem State.setInputs_cntl1 (v : List Env) : (s.setInputs v).cntl1 = s.cntl1 := rfl
@[simp] theorem State.setInputs_cntl2 (v : List Env) : (s.setInputs v).cntl2 = s.cntl2 := rfl
@[simp] theorem State.setInputs_prev (v : List Env) : (s.setInputs v).prev = s.prev := rfl
@[simp] theorem State.setInputs_env (v : List Env) : (s.setInputs v).env = s.env := rfl
@[simp] theorem State.setInputs_inputs (v : List Env) : (s.setInputs v).inputs = v := rfl
@[simp] theorem State.setInputs_freeCount (v : List Env) : (s.setInputs v).freeCount = s.freeCount := rfl
@[simp] theorem State.setFreeCount_pc (v : Nat) : (s.setFreeCount v).pc = s.pc := rfl
@[simp] theorem State.setFreeCount_ac (v : Nat) : (s.setFreeCount v).ac = s.ac := rfl
@[simp] theorem State.setFreeCount_hr (v : Nat) : (s.setFreeCount v).hr = s.hr := rfl
@[simp] theorem State.setFreeCount_lr (v : Nat) : (s.setFreeCount v).lr = s.lr := rfl
@[simp] theorem State.setFreeCount_cf (v : Nat) : (s.setFreeCount v).cf = s.cf := rfl
@[simp] theorem State.setFreeCount_zf (v : Nat) : (s.setFreeCount v).zf = s.zf := rfl
@[simp] theorem State.setFreeCount_sf (v : Nat) : (s.setFreeCount v).sf = s.sf := rfl
@[simp] theorem State.setFreeCount_gf (v : Nat) : (s.setFreeCount v).gf = s.gf := rfl
@[simp] theorem State.setFreeCount_rom (v : Nat) : (s.setFreeCount v).rom = s.rom := rfl
@[simp] theorem State.setFreeCount_ram (v : Nat) : (s.setFreeCount v).ram = s.ram := rfl
@[simp] theorem State.setFreeCount_part (v : Nat) : (s.setFreeCount v).part = s.part := rfl
@[simp] theorem State.setFreeCount_ioCode (v : Nat) : (s.setFreeCount v).ioCode = s.ioCode := rfl
@[simp] theorem State.setFreeCount_eif (v : Nat) : (s.setFreeCount v).eif = s.eif := rfl
@[simp] theorem State.setFreeCount_eir (v : Nat) : (s.setFreeCount v).eir = s.eir := rfl
@[simp] theorem State.setFreeCount_intl (v : Nat) : (s.setFreeCount v).intl = s.intl := rfl
@[simp] theorem State.setFreeCount_ports (v : Nat) : (s.setFreeCount v).ports = s.ports := rfl
@[simp] theorem State.setFreeCount_cmds (v : Nat) : (s.setFreeCount v).cmds = s.cmds := rfl
@[simp] theorem State.setFreeCount_divider (v : Nat) : (s.setFreeCount v).divider = s.divider := rfl
@[simp] theorem State.setFreeCount_sio (v : Nat) : (s.setFreeCount v).sio = s.sio := rfl
@[simp] theorem State.setFreeCount_cntl1 (v : Nat) : (s.setFreeCount v).cntl1 = s.cntl1 := rfl
@[simp] theorem State.setFreeCount_cntl2 (v : Nat) : (s.setFreeCount v).cntl2 = s.cntl2 := rfl
@[simp] theorem State.setFreeCount_prev (v : Nat) : (s.setFreeCount v).prev = s.prev := rfl
@[simp] theorem State.setFreeCount_env (v : Nat) : (s.setFreeCount v).env = s.env := rfl
@[simp] theorem State.setFreeCount_inputs (v : Nat) : (s.setFreeCount v).inputs = s.inputs := rfl
@[simp] theorem State.setFreeCount_freeCount (v : Nat) : (s.setFreeCount v).freeCount = v := rfl

/-! An update with the field itself changes nothing, and of two updates of one field the last remains. -/

@[simp] theorem State.setPc_self : s.setPc s.pc = s := rfl
@[simp] theorem State.setAc_self : s.setAc s.ac = s := rfl
@[simp] theorem State.setHr_self : s.setHr s.hr = s := rfl
@[simp] theorem State.setLr_self : s.setLr s.lr = s := rfl
@[simp] theorem State.setCf_self : s.setCf s.cf = s := rfl
@[simp] theorem State.setZf_self : s.setZf s.zf = s := rfl
@[simp] theorem State.setSf_self : s.setSf s.sf = s := rfl
@[simp] theorem State.setGf_self : s.setGf s.gf = s := rfl
@[simp] theorem State.setRom_self : s.setRom s.rom = s := rfl
@[simp] theorem State.setRam_self : s.setRam s.ram = s := rfl
@[simp] theorem State.setEif_self : s.setEif s.eif = s := rfl
@[simp] theorem State.setEir_self : s.setEir s.eir = s := rfl
@[simp] theorem State.setIntl_self : s.setIntl s.intl = s := rfl
@[simp] theorem State.setPorts_self : s.setPorts s.ports = s := rfl
@[simp] theorem State.setCmds_self : s.setCmds s.cmds = s := rfl
@[simp] theorem State.setDivider_self : s.setDivider s.divider = s := rfl
@[simp] theorem State.setSio_self : s.setSio s.sio = s := rfl
@[simp] theorem State.setCntl1_self : s.setCntl1 s.cntl1 = s := rfl
@[simp] theorem State.setCntl2_self : s.setCntl2 s.cntl2 = s := rfl
@[simp] theorem State.setPrev_self : s.setPrev s.prev = s := rfl
@[simp] theorem State.setEnv_self : s.setEnv s.env = s := rfl
@[simp] theorem State.setInputs_self : s.setInputs s.inputs = s := rfl
@[simp] theorem State.setFreeCount_self : s.setFreeCount s.freeCount = s := rfl
@[simp] theorem State.setPc_setPc (v w : RomAddr) : (s.setPc v).setPc w = s.setPc w := rfl
@[simp] theorem State.setAc_setAc (v w : Nibble) : (s.setAc v).setAc w = s.setAc w := rfl
@[simp] theorem State.setHr_setHr (v w : Nibble) : (s.setHr v).setHr w = s.setHr w := rfl
@[simp] theorem State.setLr_setLr (v w : Nibble) : (s.setLr v).setLr w = s.setLr w := rfl
@[simp] theorem State.setCf_setCf (v w : Bool) : (s.setCf v).setCf w = s.setCf w := rfl
@[simp] theorem State.setZf_setZf (v w : Bool) : (s.setZf v).setZf w = s.setZf w := rfl
@[simp] theorem State.setSf_setSf (v w : Bool) : (s.setSf v).setSf w = s.setSf w := rfl
@[simp] theorem State.setGf_setGf (v w : Bool) : (s.setGf v).setGf w = s.setGf w := rfl
@[simp] theorem State.setRom_setRom (v w : Memory 8) : (s.setRom v).setRom w = s.setRom w := rfl
@[simp] theorem State.setRam_setRam (v w : Memory 4) : (s.setRam v).setRam w = s.setRam w := rfl
@[simp] theorem State.setEif_setEif (v w : Bool) : (s.setEif v).setEif w = s.setEif w := rfl
@[simp] theorem State.setEir_setEir (v w : Nibble) : (s.setEir v).setEir w = s.setEir w := rfl
@[simp] theorem State.setIntl_setIntl (v w : BitVec 6) : (s.setIntl v).setIntl w = s.setIntl w := rfl
@[simp] theorem State.setPorts_setPorts (v w : Ports) : (s.setPorts v).setPorts w = s.setPorts w := rfl
@[simp] theorem State.setCmds_setCmds (v w : Commands) : (s.setCmds v).setCmds w = s.setCmds w := rfl
@[simp] theorem State.setDivider_setDivider (v w : BitVec 19) : (s.setDivider v).setDivider w = s.setDivider w := rfl
@[simp] theorem State.setSio_setSio (v w : Serial) : (s.setSio v).setSio w = s.setSio w := rfl
@[simp] theorem State.setCntl1_setCntl1 (v w : Bool) : (s.setCntl1 v).setCntl1 w = s.setCntl1 w := rfl
@[simp] theorem State.setCntl2_setCntl2 (v w : Bool) : (s.setCntl2 v).setCntl2 w = s.setCntl2 w := rfl
@[simp] theorem State.setPrev_setPrev (v w : EdgePins) : (s.setPrev v).setPrev w = s.setPrev w := rfl
@[simp] theorem State.setEnv_setEnv (v w : Env) : (s.setEnv v).setEnv w = s.setEnv w := rfl
@[simp] theorem State.setInputs_setInputs (v w : List Env) : (s.setInputs v).setInputs w = s.setInputs w := rfl
@[simp] theorem State.setFreeCount_setFreeCount (v w : Nat) : (s.setFreeCount v).setFreeCount w = s.setFreeCount w := rfl

end Sys2Proof.Machine
end

