-- ==== Sys2Proof/Laws/Ops.lean ====
section
/-! SUPPORT. What each operation over memory and registers can do, said once: its frame as one equation, and what is read
after it. -/

namespace Sys2Proof.Machine

variable (s : State)

/-! Reads after an update of another field -/

@[simp] theorem memRead_setPc (v : RomAddr) (a : RamAddr) : memRead (s.setPc v) a = memRead s a := rfl
@[simp] theorem memRead_setAc (v : Nibble) (a : RamAddr) : memRead (s.setAc v) a = memRead s a := rfl
@[simp] theorem memRead_setHr (v : Nibble) (a : RamAddr) : memRead (s.setHr v) a = memRead s a := rfl
@[simp] theorem memRead_setLr (v : Nibble) (a : RamAddr) : memRead (s.setLr v) a = memRead s a := rfl
@[simp] theorem memRead_setCf (v : Bool) (a : RamAddr) : memRead (s.setCf v) a = memRead s a := rfl
@[simp] theorem memRead_setZf (v : Bool) (a : RamAddr) : memRead (s.setZf v) a = memRead s a := rfl
@[simp] theorem memRead_setSf (v : Bool) (a : RamAddr) : memRead (s.setSf v) a = memRead s a := rfl
@[simp] theorem memRead_setGf (v : Bool) (a : RamAddr) : memRead (s.setGf v) a = memRead s a := rfl
@[simp] theorem memRead_setEif (v : Bool) (a : RamAddr) : memRead (s.setEif v) a = memRead s a := rfl
@[simp] theorem memRead_setEir (v : Nibble) (a : RamAddr) : memRead (s.setEir v) a = memRead s a := rfl
@[simp] theorem memRead_setIntl (v : BitVec 6) (a : RamAddr) : memRead (s.setIntl v) a = memRead s a := rfl
@[simp] theorem memRead_setPorts (v : Ports) (a : RamAddr) : memRead (s.setPorts v) a = memRead s a := rfl
@[simp] theorem memRead_setCmds (v : Commands) (a : RamAddr) : memRead (s.setCmds v) a = memRead s a := rfl
@[simp] theorem memRead_setDivider (v : BitVec 19) (a : RamAddr) : memRead (s.setDivider v) a = memRead s a := rfl
@[simp] theorem memRead_setSio (v : Serial) (a : RamAddr) : memRead (s.setSio v) a = memRead s a := rfl
@[simp] theorem memRead_setCntl1 (v : Bool) (a : RamAddr) : memRead (s.setCntl1 v) a = memRead s a := rfl
@[simp] theorem memRead_setCntl2 (v : Bool) (a : RamAddr) : memRead (s.setCntl2 v) a = memRead s a := rfl
@[simp] theorem memRead_setPrev (v : EdgePins) (a : RamAddr) : memRead (s.setPrev v) a = memRead s a := rfl
@[simp] theorem memRead_setEnv (v : Env) (a : RamAddr) : memRead (s.setEnv v) a = memRead s a := rfl
@[simp] theorem memRead_setInputs (v : List Env) (a : RamAddr) : memRead (s.setInputs v) a = memRead s a := rfl
@[simp] theorem memRead_setFreeCount (v : Nat) (a : RamAddr) : memRead (s.setFreeCount v) a = memRead s a := rfl
@[simp] theorem memRead_setRom (v : Memory 8) (a : RamAddr) : memRead (s.setRom v) a = memRead s a := rfl
@[simp] theorem romRead_setPc (v : RomAddr) (a : RomAddr) : romRead (s.setPc v) a = romRead s a := rfl
@[simp] theorem romRead_setAc (v : Nibble) (a : RomAddr) : romRead (s.setAc v) a = romRead s a := rfl
@[simp] theorem romRead_setHr (v : Nibble) (a : RomAddr) : romRead (s.setHr v) a = romRead s a := rfl
@[simp] theorem romRead_setLr (v : Nibble) (a : RomAddr) : romRead (s.setLr v) a = romRead s a := rfl
@[simp] theorem romRead_setCf (v : Bool) (a : RomAddr) : romRead (s.setCf v) a = romRead s a := rfl
@[simp] theorem romRead_setZf (v : Bool) (a : RomAddr) : romRead (s.setZf v) a = romRead s a := rfl
@[simp] theorem romRead_setSf (v : Bool) (a : RomAddr) : romRead (s.setSf v) a = romRead s a := rfl
@[simp] theorem romRead_setGf (v : Bool) (a : RomAddr) : romRead (s.setGf v) a = romRead s a := rfl
@[simp] theorem romRead_setEif (v : Bool) (a : RomAddr) : romRead (s.setEif v) a = romRead s a := rfl
@[simp] theorem romRead_setEir (v : Nibble) (a : RomAddr) : romRead (s.setEir v) a = romRead s a := rfl
@[simp] theorem romRead_setIntl (v : BitVec 6) (a : RomAddr) : romRead (s.setIntl v) a = romRead s a := rfl
@[simp] theorem romRead_setPorts (v : Ports) (a : RomAddr) : romRead (s.setPorts v) a = romRead s a := rfl
@[simp] theorem romRead_setCmds (v : Commands) (a : RomAddr) : romRead (s.setCmds v) a = romRead s a := rfl
@[simp] theorem romRead_setDivider (v : BitVec 19) (a : RomAddr) : romRead (s.setDivider v) a = romRead s a := rfl
@[simp] theorem romRead_setSio (v : Serial) (a : RomAddr) : romRead (s.setSio v) a = romRead s a := rfl
@[simp] theorem romRead_setCntl1 (v : Bool) (a : RomAddr) : romRead (s.setCntl1 v) a = romRead s a := rfl
@[simp] theorem romRead_setCntl2 (v : Bool) (a : RomAddr) : romRead (s.setCntl2 v) a = romRead s a := rfl
@[simp] theorem romRead_setPrev (v : EdgePins) (a : RomAddr) : romRead (s.setPrev v) a = romRead s a := rfl
@[simp] theorem romRead_setEnv (v : Env) (a : RomAddr) : romRead (s.setEnv v) a = romRead s a := rfl
@[simp] theorem romRead_setInputs (v : List Env) (a : RomAddr) : romRead (s.setInputs v) a = romRead s a := rfl
@[simp] theorem romRead_setFreeCount (v : Nat) (a : RomAddr) : romRead (s.setFreeCount v) a = romRead s a := rfl
@[simp] theorem romRead_setRam (v : Memory 4) (a : RomAddr) : romRead (s.setRam v) a = romRead s a := rfl

/-! Frames: the operations that write RAM change nothing else -/

@[simp] theorem ramIndex_setRam (m : Memory 4) (b : RamAddr) : ramIndex (s.setRam m) b = ramIndex s b := rfl

theorem memWrite_eq (a : RamAddr) (v : Nibble) : memWrite s a v = s.setRam (s.ram.write (ramIndex s a) v) := rfl

theorem memWrite_frame (a : RamAddr) (v : Nibble) : memWrite s a v = s.setRam (memWrite s a v).ram := rfl

theorem writeTriple_frame (base : RamAddr) (v : RomAddr) : writeTriple s base v = s.setRam (writeTriple s base v).ram := by
  simp only [writeTriple, memWrite_eq, State.setRam_setRam, State.setRam_ram, ramIndex_setRam]

theorem writeHL_frame (v : Nibble) : writeHL v s = s.setRam (writeHL v s).ram := rfl

theorem stackSave_frame (pc12 : RomAddr) (w3 : Nibble) :
    stackSave pc12 w3 s = s.setRam (stackSave pc12 w3 s).ram := by
  simp only [stackSave, writeTriple, memWrite_eq, State.setRam_setRam, State.setRam_ram, ramIndex_setRam]

theorem stackRestore_frame : stackRestore s = s.setRam (stackRestore s).ram := rfl

theorem incrementL_frame :
    incrementL s = ((s.setLr (incrementL s).lr).setZf (incrementL s).zf).setSf (incrementL s).sf := rfl

theorem decrementL_frame :
    decrementL s = ((s.setLr (decrementL s).lr).setZf (decrementL s).zf).setSf (decrementL s).sf := rfl

theorem acceptInterrupt_frame (f : Factor) :
    acceptInterrupt f s =
      ((((s.setRam (stackSave s.pc (flagWord s) s).ram).setPc (factorVector f)).setSf true).setEif false).setIntl
        (s.intl &&& ~~~(1#6 <<< factorLatch f)) := by
  rw [acceptInterrupt, stackSave_frame]
  rfl

@[simp] theorem ramIndex_memWrite (a b : RamAddr) (v : Nibble) : ramIndex (memWrite s a v) b = ramIndex s b := rfl

@[simp] theorem romRead_memWrite (a : RamAddr) (v : Nibble) (b : RomAddr) : romRead (memWrite s a v) b = romRead s b := rfl

/-! Memory -/

/-- A read after a write (R76, R77): the written word at every address that answers to it, else the word as before. -/
theorem memRead_memWrite (a b : RamAddr) (v : Nibble) :
    memRead (memWrite s a v) b = if ramIndex s b = ramIndex s a then v else memRead s b :=
  Memory.read_write s.ram (ramIndex s a) (ramIndex s b) v

theorem ramIndex_lt (a : RamAddr) : ramIndex s a < (ramMask s.part).toNat + 1 := by
  unfold ramIndex
  rw [BitVec.toNat_and]
  exact Nat.lt_succ_of_le Nat.and_le_right

theorem romIndex_lt (a : RomAddr) : romIndex s a < (romMask s.part).toNat + 1 := by
  unfold romIndex
  rw [BitVec.toNat_and]
  exact Nat.lt_succ_of_le Nat.and_le_right

/-- A write keeps the canonical form of RAM. -/
theorem memWrite_wf (a : RamAddr) (v : Nibble) (h : s.ram.wf ((ramMask s.part).toNat + 1) = true) :
    (memWrite s a v).ram.wf ((ramMask s.part).toNat + 1) = true :=
  Memory.wf_write _ _ v s.ram (ramIndex_lt s a) h

theorem writeTriple_wf (base : RamAddr) (v : RomAddr) (h : s.ram.wf ((ramMask s.part).toNat + 1) = true) :
    (writeTriple s base v).ram.wf ((ramMask s.part).toNat + 1) = true := by
  simp only [writeTriple, memWrite_eq, State.setRam_ram, ramIndex_setRam]
  exact Memory.wf_write _ _ _ _ (ramIndex_lt s _)
    (Memory.wf_write _ _ _ _ (ramIndex_lt s _) (Memory.wf_write _ _ _ _ (ramIndex_lt s _) h))

theorem stackSave_wf (pc12 : RomAddr) (w3 : Nibble) (h : s.ram.wf ((ramMask s.part).toNat + 1) = true) :
    (stackSave pc12 w3 s).ram.wf ((ramMask s.part).toNat + 1) = true := by
  rw [stackSave, writeTriple_frame]
  simp only [memWrite_eq, State.setRam_ram, ramIndex_setRam]
  exact Memory.wf_write _ _ _ _ (ramIndex_lt s _)
    (Memory.wf_write _ _ _ _ (ramIndex_lt s _) (writeTriple_wf s _ _ h))

theorem stackRestore_wf (h : s.ram.wf ((ramMask s.part).toNat + 1) = true) :
    (stackRestore s).ram.wf ((ramMask s.part).toNat + 1) = true :=
  memWrite_wf s _ _ h

/-- The physical words of two addresses that agree in their low seven bits are those of the same array only if the
addresses agree there: different low bits give different words on both chips. -/
theorem ramIndex_ne_of_low (a b : RamAddr) (h : a.extractLsb' 0 7 ≠ b.extractLsb' 0 7) : ramIndex s a ≠ ramIndex s b := by
  intro he
  apply h
  have key : ∀ m : RamAddr, m.extractLsb' 0 7 = 0x7F#7 → a &&& m = b &&& m → a.extractLsb' 0 7 = b.extractLsb' 0 7 := by
    intro m hm hab
    have h' := congrArg (fun x : RamAddr => x.extractLsb' 0 7) hab
    simp only [BitVec.extractLsb'_and, hm] at h'
    have hall : ∀ x : BitVec 7, x &&& 0x7F#7 = x := by decide
    rwa [hall, hall] at h'
  unfold ramIndex at he
  refine key (ramMask s.part) ?_ (BitVec.eq_of_toNat_eq he)
  cases s.part <;> rfl

/-- The words of a triple after it is written, where the three words are different (R88 (f)). -/
theorem memRead_writeTriple (base b : RamAddr) (v : RomAddr)
    (h01 : ramIndex s base ≠ ramIndex s (base + 1#8)) (h02 : ramIndex s base ≠ ramIndex s (base + 2#8))
    (h12 : ramIndex s (base + 1#8) ≠ ramIndex s (base + 2#8)) :
    memRead (writeTriple s base v) b =
      if ramIndex s b = ramIndex s base then v.extractLsb' 0 4
      else if ramIndex s b = ramIndex s (base + 1#8) then v.extractLsb' 4 4
      else if ramIndex s b = ramIndex s (base + 2#8) then v.extractLsb' 8 4
      else memRead s b := by
  unfold writeTriple
  simp only [memRead_memWrite, ramIndex_memWrite]
  by_cases h0 : ramIndex s b = ramIndex s base
  · simp [h0, h01, h02]
  · by_cases h1 : ramIndex s b = ramIndex s (base + 1#8)
    · simp [h1, h12, Ne.symm h01]
    · simp [h0, h1]

/-! The stack -/

/-- The four words of an allowed level and the word of SPW are five different words on both chips (R37, R39). -/
theorem stackAddr_distinct (level : Nibble) (h : level ≠ 0xF#4) (i j : Nat) (hi : i < 4) (hj : j < 4) :
    (i ≠ j → ramIndex s (stackAddr level + BitVec.ofNat 8 i) ≠ ramIndex s (stackAddr level + BitVec.ofNat 8 j)) ∧
      ramIndex s (stackAddr level + BitVec.ofNat 8 i) ≠ ramIndex s spwAddr := by
  have key : ∀ (l : Nibble) (i j : Fin 4), l ≠ 0xF#4 →
      (i ≠ j → (stackAddr l + BitVec.ofNat 8 i).extractLsb' 0 7 ≠ (stackAddr l + BitVec.ofNat 8 j).extractLsb' 0 7) ∧
        (stackAddr l + BitVec.ofNat 8 i).extractLsb' 0 7 ≠ spwAddr.extractLsb' 0 7 := by decide
  obtain ⟨h1, h2⟩ := key level ⟨i, hi⟩ ⟨j, hj⟩ h
  exact ⟨fun hne => ramIndex_ne_of_low s _ _ (h1 (fun he => hne (congrArg Fin.val he))), ramIndex_ne_of_low s _ _ h2⟩

end Sys2Proof.Machine
end

