-- ==== Sys2Proof/Laws/Ports.lean ====
section
/-! SUPPORT. What an access to a port can do: where it is refused, and its frame. -/

namespace Sys2Proof.Machine

variable (s : State)

/-- The fields an access of the serial port's registers can change. -/
theorem setRequest_frame (v : Bool) :
    setRequest v s = (s.setSio (setRequest v s).sio).setIntl (setRequest v s).intl := by
  unfold setRequest setLatch
  simp only
  split <;> rfl

theorem setRequest_intl (v : Bool) :
    (setRequest v s).intl = s.intl ∨ (setRequest v s).intl = s.intl ||| (1#6 <<< 4) := by
  unfold setRequest setLatch
  simp only
  split
  · exact .inr rfl
  · exact .inl rfl

/-- The value of a write to the request signal. -/
@[simp] theorem setRequest_sio (v : Bool) : (setRequest v s).sio = { s.sio with req := v } := by
  unfold setRequest setLatch
  simp only
  split <;> rfl

@[simp] theorem setRequest_false : setRequest false s = s.setSio { s.sio with req := false } := rfl

theorem setRequest_true_latch (h : s.sio.req = false) : (setRequest true s).intl = s.intl ||| (1#6 <<< 4) := by
  unfold setRequest setLatch
  simp [h, factorLatch]

/-- A read of the serial buffer changes the serial port's registers and can set INTL4, nothing else. -/
theorem readSerialBuffer_frame :
    readSerialBuffer s = (s.setSio (readSerialBuffer s).sio).setIntl (readSerialBuffer s).intl := by
  unfold readSerialBuffer
  rw [setRequest_false]
  simp only
  split
  · rw [setRequest_frame]
    rfl
  · rfl

theorem portIn_frame (p : Nibble) (v : Nibble) (t : State) (h : portIn p s = .ok (v, t)) :
    t = ((s.setSio t.sio).setIntl t.intl).setFreeCount t.freeCount := by
  unfold portIn at h
  split at h <;> try (injection h with h; injection h with _ h; subst h; rfl)
  · injection h with h
    injection h with _ h
    subst h
    rw [readSerialBuffer_frame]
    rfl
  · cases h

/-- The sixteen values of a port field. -/
theorem nibble_cases (p : Nibble) :
    p = 0#4 ∨ p = 1#4 ∨ p = 2#4 ∨ p = 3#4 ∨ p = 4#4 ∨ p = 5#4 ∨ p = 6#4 ∨ p = 7#4 ∨ p = 8#4 ∨ p = 9#4 ∨ p = 10#4 ∨
      p = 11#4 ∨ p = 12#4 ∨ p = 13#4 ∨ p = 14#4 ∨ p = 15#4 := by
  revert p
  decide

/-- An input is refused exactly at the ports its column of R80 does not allow. -/
theorem portIn_refused (p : Nibble) : (∃ r, portIn p s = .error r) ↔ inPorts.contains p.toNat = false := by
  rcases nibble_cases p with h | h | h | h | h | h | h | h | h | h | h | h | h | h | h | h <;> subst h <;>
    simp [portIn, inPorts]

theorem scrambleSerial_frame :
    scrambleSerial s =
      ((s.setSio (scrambleSerial s).sio).setIntl (scrambleSerial s).intl).setFreeCount (scrambleSerial s).freeCount := by
  simp only [scrambleSerial]
  rw [setRequest_frame]
  simp only [State.setIntl_sio, State.setIntl_intl, State.setIntl_freeCount, State.setSio_sio, State.setSio_freeCount,
    State.setFreeCount_freeCount]
  rfl

theorem writeSerialCommand_frame (v : Nibble) (t : State) (h : writeSerialCommand v s = .ok t) :
    t = (((s.setSio t.sio).setCmds { s.cmds with cmd1F := v }).setIntl t.intl).setFreeCount t.freeCount := by
  unfold writeSerialCommand at h
  split at h
  · cases h
  · injection h with h
    subst h
    simp only
    split
    · rw [scrambleSerial_frame]
      rfl
    · rfl

/-- An output changes port latches, command registers, the serial port and its latch INTL4, nothing else. -/
theorem portOut_frame (p : PortAddr) (v : Nibble) (t : State) (h : portOut p v s = .ok t) :
    t = ((((s.setPorts t.ports).setCmds t.cmds).setSio t.sio).setIntl t.intl).setFreeCount t.freeCount := by
  unfold portOut at h
  split at h
  case h_9 =>
    injection h with h
    subst h
    by_cases hm : inTransmit s = true
    · simp only [writeSerialBuffer, hm, if_true]
      ext1 <;> simp
    · simp only [writeSerialBuffer, hm]
      ext1 <;> simp
  case h_14 =>
    have h' := writeSerialCommand_frame s v t h
    generalize t.sio = q, t.intl = l, t.freeCount = n at h'
    subst h'
    ext1 <;> simp
  all_goals first | (injection h with h; subst h; ext1 <;> simp) | (cases h)

/-- A bit change of a latch changes port latches only. -/
theorem updateLatch_frame (p : Nibble) (change : Nibble → Nibble) (t : State) (h : updateLatch p change s = .ok t) :
    t = s.setPorts t.ports := by
  unfold updateLatch at h
  cases hl : portLatch p s with
  | none => simp [hl] at h
  | some v =>
    simp only [hl] at h
    generalize hc : change v = w at h
    rcases nibble_cases p with hp | hp | hp | hp | hp | hp | hp | hp | hp | hp | hp | hp | hp | hp | hp | hp <;>
      subst hp <;> first | (injection h with h; subst h; rfl) | (simp [portLatch] at hl)

end Sys2Proof.Machine
end

