-- ==== Sys2Proof/Laws/Serial.lean ====
section
/-! SUPPORT. What a cycle of the serial port can do (61_peripherals.md rules R374-R380): its frame, said once for each
operation, and that an enabled port keeps its transfer. -/

namespace Sys2Proof.Machine

/-- `t` is `s` but for the serial port's registers, the latch INTL4, which may have been set, and the count of free values;
and SIOF is as before unless ESIO = 0. -/
structure SerialOnly (s t : State) : Prop where
  frame : t = ((s.setSio t.sio).setIntl t.intl).setFreeCount t.freeCount
  latch : t.intl = s.intl ∨ t.intl = s.intl ||| (1#6 <<< 4)
  transfer : esio s.cmds.cmd1F = true → s.sio.siof = true → t.sio.siof = true

variable {s t u : State}

theorem SerialOnly.cmds (h : SerialOnly s t) : t.cmds = s.cmds := by
  rw [h.frame]
  simp

theorem SerialOnly.refl (s : State) : SerialOnly s s := ⟨by simp, .inl rfl, fun _ h => h⟩

theorem SerialOnly.trans (h : SerialOnly s t) (h' : SerialOnly t u) : SerialOnly s u := by
  refine ⟨?_, ?_, ?_⟩
  · have hf := h.frame
    have hf' := h'.frame
    generalize t.sio = q, t.intl = l, t.freeCount = n at hf
    generalize u.sio = q', u.intl = l', u.freeCount = n' at hf' ⊢
    subst hf
    subst hf'
    ext1 <;> simp
  · have hor : s.intl ||| (1#6 <<< 4) ||| (1#6 <<< 4) = s.intl ||| (1#6 <<< 4) := by
      rw [BitVec.or_assoc, BitVec.or_self]
    rcases h.latch with hl | hl <;> rcases h'.latch with hl' | hl' <;> rw [hl', hl]
    · exact .inl rfl
    · exact .inr rfl
    · exact .inr rfl
    · exact .inr hor
  · intro he hs
    exact h'.transfer (by rw [h.cmds]; exact he) (h.transfer he hs)

/-- An update of the serial registers that keeps SIOF. -/
theorem SerialOnly.ofSio (s : State) (q : Serial) (n : Nat) (h : esio s.cmds.cmd1F = true → s.sio.siof = true → q.siof = true) :
    SerialOnly s ((s.setSio q).setFreeCount n) :=
  ⟨by ext1 <;> simp, .inl (by simp), by simpa using h⟩

theorem SerialOnly.ofSio' (s : State) (q : Serial) (h : esio s.cmds.cmd1F = true → s.sio.siof = true → q.siof = true) :
    SerialOnly s (s.setSio q) :=
  ⟨by ext1 <;> simp, .inl (by simp), by simpa using h⟩

theorem setRequest_serialOnly (v : Bool) (s : State) : SerialOnly s (setRequest v s) := by
  refine ⟨?_, setRequest_intl s v, by simp⟩
  have h := setRequest_frame s v
  generalize (setRequest v s).intl = l, (setRequest v s).sio = q at h
  rw [h]
  ext1 <;> simp

theorem scrambleSerial_serialOnly (s : State) : SerialOnly s (scrambleSerial s) := by
  unfold scrambleSerial
  exact (SerialOnly.ofSio s _ _ (by simp)).trans (setRequest_serialOnly _ _)

theorem shiftOut_serialOnly (s : State) : SerialOnly s (shiftOut s) := by
  refine ⟨?_, .inl rfl, by simp [shiftOut, takeFree]⟩
  unfold shiftOut takeFree
  ext1 <;> simp

theorem transmitEdge_serialOnly (s : State) : SerialOnly s (transmitEdge s) := by
  unfold transmitEdge
  split
  · exact shiftOut_serialOnly s
  · split
    · next h => exact SerialOnly.ofSio' s _ (by intro he; simp [he] at h)
    · split
      · split
        · exact SerialOnly.ofSio' s _ (by simp)
        · exact SerialOnly.ofSio' s _ (by simp)
      · exact ((SerialOnly.ofSio' s _ (by simp)).trans (setRequest_serialOnly _ _)).trans (shiftOut_serialOnly _)

theorem deliverWord_serialOnly (s : State) : SerialOnly s (deliverWord s) := by
  unfold deliverWord
  split
  · exact SerialOnly.ofSio' s _ (by simp)
  · exact (SerialOnly.ofSio' s _ (by simp)).trans (setRequest_serialOnly _ _)

theorem shiftIn_serialOnly (si : Bool) (s : State) : SerialOnly s (shiftIn si s) := by
  unfold shiftIn
  simp only
  split
  · exact (SerialOnly.ofSio' s _ (by simp)).trans (deliverWord_serialOnly _)
  · exact SerialOnly.ofSio' s _ (by simp)

theorem receiveEdge_serialOnly (si : Bool) (s : State) : SerialOnly s (receiveEdge si s) := by
  unfold receiveEdge
  split
  · next h => exact SerialOnly.ofSio' s _ (by intro he; simp [he] at h)
  · split
    · split
      · exact SerialOnly.ofSio' s _ (by simp)
      · exact SerialOnly.ofSio' s _ (by simp)
    · exact shiftIn_serialOnly si s

theorem serialShift_serialOnly (next : BitVec 19) (now : EdgePins) (si : Bool) (s : State) :
    SerialOnly s (serialShift next now si s) := by
  unfold serialShift
  split
  · exact SerialOnly.refl s
  · split
    · exact transmitEdge_serialOnly s
    · exact SerialOnly.refl s
  · split
    · exact receiveEdge_serialOnly si s
    · exact SerialOnly.refl s
  · split
    · exact receiveEdge_serialOnly si s
    · exact SerialOnly.refl s

/-- One cycle of the serial port. -/
theorem serialTick_serialOnly (next : BitVec 19) (now : EdgePins) (si : Bool) (s : State) :
    SerialOnly s (serialTick next now si s) := by
  unfold serialTick
  simp only
  refine SerialOnly.trans (t := if (serialShift next now si s).sio.unspec = true then
    scrambleSerial (serialShift next now si s) else serialShift next now si s) ?_ (SerialOnly.ofSio' _ _ (by simp))
  split
  · exact (serialShift_serialOnly next now si s).trans (scrambleSerial_serialOnly _)
  · exact serialShift_serialOnly next now si s

end Sys2Proof.Machine
end

