-- ==== Sys2Proof/Laws/Stack.lean ====
section
/-! SUPPORT. What the stack operations read back (46_branch_other.md rule R294), and the flag word (R33). -/

namespace Sys2Proof.Machine

variable (s : State)

/-- Every word after a save at an allowed level: the level's four words, SPW one lower, and the rest as before. -/
theorem memRead_stackSave (pc12 : RomAddr) (w3 : Nibble) (b : RamAddr) (h : spw s ≠ 0xF#4) :
    memRead (stackSave pc12 w3 s) b =
      if ramIndex s b = ramIndex s spwAddr then spw s - 1#4
      else if ramIndex s b = ramIndex s (stackAddr (spw s) + 3#8) then w3
      else if ramIndex s b = ramIndex s (stackAddr (spw s)) then pc12.extractLsb' 0 4
      else if ramIndex s b = ramIndex s (stackAddr (spw s) + 1#8) then pc12.extractLsb' 4 4
      else if ramIndex s b = ramIndex s (stackAddr (spw s) + 2#8) then pc12.extractLsb' 8 4
      else memRead s b := by
  have h01 := (stackAddr_distinct s (spw s) h 0 1 (by omega) (by omega)).1 (by omega)
  have h02 := (stackAddr_distinct s (spw s) h 0 2 (by omega) (by omega)).1 (by omega)
  have h12 := (stackAddr_distinct s (spw s) h 1 2 (by omega) (by omega)).1 (by omega)
  rw [show BitVec.ofNat 8 0 = 0#8 from rfl, BitVec.add_zero] at h01 h02
  have hidx : ∀ a, ramIndex (writeTriple s (stackAddr (spw s)) pc12) a = ramIndex s a := by
    intro a
    rw [writeTriple_frame]
    rfl
  simp only [stackSave, memRead_memWrite, ramIndex_memWrite, hidx, memRead_writeTriple s _ _ _ h01 h02 h12]

/-- Every word after a restore: SPW one higher, the rest as before. -/
theorem memRead_stackRestore (b : RamAddr) :
    memRead (stackRestore s) b = if ramIndex s b = ramIndex s spwAddr then spw s + 1#4 else memRead s b :=
  memRead_memWrite s spwAddr b (restoreLevel s)

/-- A restore from an allowed level reads words that it does not write. -/
theorem restored_eq (h : restoreLevel s ≠ 0xF#4) :
    restoredPc s = readTriple s (stackAddr (restoreLevel s)) ∧
      restoredWord s = memRead s (stackAddr (restoreLevel s) + 3#8) := by
  have hne := fun i (hi : i < 4) => (stackAddr_distinct s (restoreLevel s) h i 0 hi (by omega)).2
  have h0 := hne 0 (by omega)
  rw [show BitVec.ofNat 8 0 = 0#8 from rfl, BitVec.add_zero] at h0
  unfold restoredPc restoredWord readTriple
  simp only [memRead_stackRestore]
  rw [if_neg h0, if_neg (hne 1 (by omega)), if_neg (hne 2 (by omega)), if_neg (hne 3 (by omega))]
  exact ⟨rfl, rfl⟩

theorem returnFromInterrupt_frame :
    returnFromInterrupt s =
      (((((((s.setRam (stackRestore s).ram).setPc (restoredPc s)).setCf ((restoredWord s).getLsbD 3)).setZf
        ((restoredWord s).getLsbD 2)).setSf ((restoredWord s).getLsbD 1)).setGf ((restoredWord s).getLsbD 0)).setEif
        true) := rfl

/-- The flag word and its restoration are inverse to each other. -/
theorem flagWord_bits :
    (flagWord s).getLsbD 3 = s.cf ∧ (flagWord s).getLsbD 2 = s.zf ∧ (flagWord s).getLsbD 1 = s.sf ∧
      (flagWord s).getLsbD 0 = s.gf := by
  unfold flagWord
  cases s.cf <;> cases s.zf <;> cases s.sf <;> cases s.gf <;> decide

end Sys2Proof.Machine
end

