-- ==== Sys2Proof/Laws/Peripherals.lean ====
section
/-! SUPPORT. What the parts of a peripheral cycle, a count operation, the change of the outside levels and a reset can do. -/

namespace Sys2Proof.Machine

variable (s : State)

/-! The parts of one cycle -/

theorem setLatch_frame (f : Factor) : setLatch f s = s.setIntl (s.intl ||| (1#6 <<< factorLatch f)) := rfl

theorem clearLatch_frame (f : Factor) : clearLatch f s = s.setIntl (s.intl &&& ~~~(1#6 <<< factorLatch f)) := rfl

/-- A set latch is set and every other latch is as before (R304). -/
theorem setLatch_bit (f : Factor) (j : Nat) (hj : j < 6) :
    (setLatch f s).intl.getLsbD j = (s.intl.getLsbD j || decide (j = factorLatch f)) := by
  rw [setLatch_frame, State.setIntl_intl]
  have hj' : j = 0 ∨ j = 1 ∨ j = 2 ∨ j = 3 ∨ j = 4 ∨ j = 5 := by omega
  rcases hj' with h | h | h | h | h | h <;> subst h <;> cases f <;> simp [factorLatch]

/-- A cleared latch is clear and every other latch is as before (R305). -/
theorem clearLatch_bit (f : Factor) (j : Nat) (hj : j < 6) :
    (clearLatch f s).intl.getLsbD j = (s.intl.getLsbD j && !decide (j = factorLatch f)) := by
  rw [clearLatch_frame, State.setIntl_intl]
  have hj' : j = 0 ∨ j = 1 ∨ j = 2 ∨ j = 3 ∨ j = 4 ∨ j = 5 := by omega
  rcases hj' with h | h | h | h | h | h <;> subst h <;> cases f <;> simp [factorLatch]

theorem tickDividerInterrupt_eq (next : BitVec 19) :
    tickDividerInterrupt next s =
      if s.cmds.cmd19.getLsbD 2 && rises (timerStage s.cmds.cmd19) s.divider next then setLatch .itmr s else s := rfl

theorem tickDividerInterrupt_frame (next : BitVec 19) :
    tickDividerInterrupt next s = s.setIntl (tickDividerInterrupt next s).intl := by
  unfold tickDividerInterrupt
  split
  · rfl
  · simp

theorem tickPinInterrupts_frame (now : EdgePins) :
    tickPinInterrupts now s = s.setIntl (tickPinInterrupts now s).intl := by
  unfold tickPinInterrupts
  simp only
  split <;> split <;> rfl

theorem tickCountPulses_frame (next : BitVec 19) (now : EdgePins) :
    tickCountPulses next now s =
      (s.setCntl1 (s.cntl1 || countPulse s.cmds.cmd1C s.divider next s.prev.r83 now.r83)).setCntl2
        (s.cntl2 || countPulse s.cmds.cmd1D s.divider next s.prev.r81 now.r81) := rfl

@[simp] theorem tick_divider : (tick s).divider = s.divider + 1#19 := rfl

@[simp] theorem tick_prev : (tick s).prev = edgePins s := rfl

theorem ticks_zero : ticks 0 s = s := rfl

theorem ticks_succ (n : Nat) : ticks (n + 1) s = ticks n (tick s) := rfl

theorem ticks_add (m n : Nat) : ticks (m + n) s = ticks n (ticks m s) := by
  induction m generalizing s with
  | zero => simp [ticks]
  | succ k ih =>
    rw [Nat.add_right_comm, ticks_succ, ticks_succ]
    exact ih (tick s)

/-! The count operation -/

/-- A count operation changes RAM, its count latch and its overflow latch, nothing else. -/
theorem countOperation_frame (ch : Channel) :
    countOperation ch s =
      (clearCount ch (s.setRam (writeTriple s (counterAddr ch) (readTriple s (counterAddr ch) + 1#12)).ram)).setIntl
        (countOperation ch s).intl := by
  unfold countOperation
  simp only
  rw [writeTriple_frame]
  split
  · cases ch <;> rfl
  · cases ch <;> simp [clearCount] <;> rfl

/-! The outside levels and the initialization operation -/

/-- The change of the outside levels changes nothing of the chip. -/
theorem nextEnv_frame : nextEnv s = (s.setEnv (nextEnv s).env).setInputs (nextEnv s).inputs := by
  unfold nextEnv
  split
  · ext1 <;> simp
  · ext1 <;> simp

@[simp] theorem resetMachine_ram : (resetMachine s).ram = s.ram := rfl
@[simp] theorem resetMachine_rom : (resetMachine s).rom = s.rom := rfl
@[simp] theorem resetMachine_part : (resetMachine s).part = s.part := rfl
@[simp] theorem resetMachine_ioCode : (resetMachine s).ioCode = s.ioCode := rfl
@[simp] theorem resetMachine_cmds :
    (resetMachine s).cmds = { cmd19 := 0x0#4, cmd1C := 0x0#4, cmd1D := 0x0#4, cmd1F := 0x0#4 } := rfl

/-- Power-up is a reset but for RAM and the count of free values. -/
theorem powerUpMachine_frame :
    powerUpMachine s =
      ((resetMachine s).setRam (powerUpMachine s).ram).setFreeCount (powerUpMachine s).freeCount := by
  unfold powerUpMachine
  ext1 <;> simp

/-- RAM filled with free values is in canonical form. -/
theorem freeRam_wf (n i size : Nat) (h : n ≤ size) : (freeRam n i).wf size = true := by
  induction n with
  | zero => rfl
  | succ k ih => exact Memory.wf_write size k _ _ (by omega) (ih (by omega))

end Sys2Proof.Machine
end

