-- ==== Sys2Proof/Laws/Abandon.lean ====
section
/-! SUPPORT. What a step that RESET abandons can leave: the frame of freeing words, what they read, and the canonical form. -/

namespace Sys2Proof.Machine

variable (s : State)

@[simp] theorem takeFree_value : (takeFree s).1 = Config.freeNibble s.freeCount := rfl
@[simp] theorem takeFree_state : (takeFree s).2 = s.setFreeCount (s.freeCount + 1) := rfl

/-- Freeing words changes RAM and the count of free values, nothing else. -/
theorem freeWords_frame (words : List RamAddr) :
    freeWords words s = (s.setRam (freeWords words s).ram).setFreeCount (freeWords words s).freeCount := by
  induction words generalizing s with
  | nil => simp [freeWords]
  | cons a rest ih =>
    rw [freeWords, ih]
    ext1 <;> simp [memWrite_eq]

@[simp] theorem freeWords_part (words : List RamAddr) : (freeWords words s).part = s.part := by
  rw [freeWords_frame]
  simp

/-- A word that answers to none of the freed addresses reads as before. -/
theorem memRead_freeWords (words : List RamAddr) (a : RamAddr) (h : ∀ w ∈ words, ramIndex s a ≠ ramIndex s w) :
    memRead (freeWords words s) a = memRead s a := by
  induction words generalizing s with
  | nil => rfl
  | cons w rest ih =>
    refine (ih (memWrite (takeFree s).2 w (takeFree s).1) (fun v hv => h v (List.mem_cons_of_mem _ hv))).trans ?_
    rw [memRead_memWrite]
    exact if_neg (h w List.mem_cons_self)

/-- A freed word reads, at every address it answers to, a free value that no other use has taken before. -/
theorem memRead_freeWords_mem (words : List RamAddr) (a : RamAddr) (h : ∃ w ∈ words, ramIndex s a = ramIndex s w) :
    ∃ k, s.freeCount ≤ k ∧ memRead (freeWords words s) a = Config.freeNibble k := by
  induction words generalizing s with
  | nil => simp at h
  | cons w rest ih =>
    by_cases hr : ∃ v ∈ rest, ramIndex s a = ramIndex s v
    · obtain ⟨k, hk, he⟩ := ih (memWrite (takeFree s).2 w (takeFree s).1) hr
      exact ⟨k, Nat.le_of_succ_le hk, he⟩
    · obtain ⟨v, hv, hav⟩ := h
      obtain rfl : v = w := (List.mem_cons.mp hv).resolve_right (fun hm => hr ⟨v, hm, hav⟩)
      refine ⟨s.freeCount, Nat.le_refl _, ?_⟩
      refine (memRead_freeWords (memWrite (takeFree s).2 v (takeFree s).1) rest a (fun u hu he => hr ⟨u, hu, he⟩)).trans ?_
      rw [memRead_memWrite]
      exact if_pos hav

/-- Freeing words keeps the canonical form of RAM. -/
theorem freeWords_wf (words : List RamAddr) (h : s.ram.wf ((ramMask s.part).toNat + 1) = true) :
    (freeWords words s).ram.wf ((ramMask s.part).toNat + 1) = true := by
  induction words generalizing s with
  | nil => exact h
  | cons a rest ih => exact ih (memWrite (takeFree s).2 a (takeFree s).1) (memWrite_wf (takeFree s).2 a _ h)

/-- RAM filled with free values reads, at each address, the free value of its own index. -/
theorem freeRam_read (n i a : Nat) (h : a < n) : (freeRam n i).read a = Config.freeNibble (i + a) := by
  induction n with
  | zero => omega
  | succ k ih =>
    rw [freeRam, Memory.read_write]
    split
    · next he => rw [he]
    · exact ih (by omega)

/-- Everything an abandoned step can leave: every word free, or the words of the step free (R401). -/
theorem abandonStep_cases :
    abandonStep s = powerUpMachine s ∨
      ∃ i t, fetch s = .ok i ∧ exec i s = .next t ∧
        acceptsAtLevelF (afterInstruction (instrCycles i) t) = false ∧
        abandonStep s =
          resetMachine
            (freeWords (stepWords i s t) (s.setFreeCount (afterInstruction (instrCycles i) t).freeCount)) := by
  unfold abandonStep
  split
  · exact .inl rfl
  · next i hf =>
    split
    · next t ht =>
      split
      · exact .inl rfl
      · next hl => exact .inr ⟨i, t, hf, ht, by simpa using hl, rfl⟩
    · exact .inl rfl
    · exact .inl rfl

end Sys2Proof.Machine
end

