-- ==== Sys2Proof/Laws/Flags.lean ====
section
/-! SUPPORT. What the ALU and the flag computations answer. -/

namespace Sys2Proof.Machine

variable (s : State)

theorem add4_fst (a b : Nibble) (cin : Bool) : (add4 a b cin).1 = BitVec.ofNat 4 (a.toNat + b.toNat + cin.toNat) := rfl

theorem add4_snd (a b : Nibble) (cin : Bool) : (add4 a b cin).2 = decide (16 ≤ a.toNat + b.toNat + cin.toNat) := rfl

theorem not4_toNat (v : Nibble) : (not4 v).toNat = 15 - v.toNat := by
  revert v
  decide

/-- `sub4` with carry 1 is the difference, and its carry the non-borrow (R15). -/
theorem sub4_true (a b : Nibble) : sub4 a b true = (a - b, decide (b.toNat ≤ a.toNat)) := by
  revert a b
  decide

/-- `sub4` in general: the integer difference less the missing carry, and its carry the sign (R15). -/
theorem sub4_eq (a b : Nibble) (cin : Bool) :
    sub4 a b cin =
      (BitVec.ofInt 4 ((a.toNat : Int) - b.toNat - (!cin).toNat), decide (0 ≤ (a.toNat : Int) - b.toNat - (!cin).toNat)) := by
  revert a b cin
  decide

theorem isZero_eq (v : Nibble) : isZero v = decide (v = 0#4) := rfl

theorem sumFlags_eq (r : Nibble × Bool) : sumFlags r s = (s.setZf (decide (r.1 = 0#4))).setSf (!r.2) := rfl

theorem differenceFlags_eq (r : Nibble × Bool) : differenceFlags r s = (s.setZf (decide (r.1 = 0#4))).setSf r.2 := rfl

theorem logicFlags_eq (v : Nibble) : logicFlags v s = (s.setZf (decide (v = 0#4))).setSf (!decide (v = 0#4)) := rfl

theorem rotateFlags_eq (v : Nibble) (out : Bool) :
    rotateFlags v out s = ((s.setCf out).setZf (decide (v = 0#4))).setSf (!out) := rfl

theorem loadAc_eq (v : Nibble) : loadAc v s = ((s.setAc v).setZf (decide (v = 0#4))).setSf true := rfl

theorem restoreFlags_eq (w : Nibble) :
    restoreFlags w s =
      (((s.setCf (w.getLsbD 3)).setZf (w.getLsbD 2)).setSf (w.getLsbD 1)).setGf (w.getLsbD 0) := rfl

/-- A difference is zero exactly when the operands are equal. -/
theorem sub4_isZero (a b : Nibble) : isZero (sub4 a b true).1 = decide (a = b) := by
  revert a b
  decide

theorem compareFlags_eq (a b : Nibble) :
    compareFlags a b s = (s.setZf (decide (a = b))).setSf (!decide (a = b)) := by
  unfold compareFlags logicFlags
  rw [sub4_isZero]

theorem compareFlagsCf_eq (a b : Nibble) :
    compareFlagsCf a b s = ((s.setZf (decide (a = b))).setSf (!decide (a = b))).setCf (decide (b.toNat ≤ a.toNat)) := by
  unfold compareFlagsCf
  rw [compareFlags_eq, sub4_true]

end Sys2Proof.Machine
end

