-- ==== Sys2Proof/Laws/PerInstr.lean ====
section
/-! SUPPORT. Statements for all instructions, one lemma for each constructor. -/

namespace Sys2Proof.Laws

open Sys2Proof

/-- The shape of an encoding: it has the instruction's length, one or two bytes, and its first byte announces a second one
exactly when there is one (R110, R112). -/
def EncodingShape.Statement (i : Instr) : Prop :=
  (encode i).length = instrLength i ∧
    ∃ b1 rest, encode i = b1 :: rest ∧ isTwoByte b1 = decide (instrLength i = 2) ∧ rest.length < 2

theorem EncodingShape.ldAHL : EncodingShape.Statement .ldAHL := ⟨rfl, _, _, rfl, rfl, by simp⟩

theorem EncodingShape.ldAX (x : BitVec 8) : EncodingShape.Statement (.ldAX x) := ⟨rfl, _, _, rfl, rfl, by simp⟩

theorem EncodingShape.ldAK (k : BitVec 4) : EncodingShape.Statement (.ldAK k) := by
  have key : ∀ x : BitVec 4, isTwoByte (0x4#4 ++ x) = false := by decide
  exact ⟨rfl, _, _, rfl, key k, by simp⟩

theorem EncodingShape.ldHLX (x : BitVec 8) : EncodingShape.Statement (.ldHLX x) := ⟨rfl, _, _, rfl, rfl, by simp⟩

theorem EncodingShape.ldHK (k : BitVec 4) : EncodingShape.Statement (.ldHK k) := by
  have key : ∀ x : BitVec 4, isTwoByte (0xC#4 ++ x) = false := by decide
  exact ⟨rfl, _, _, rfl, key k, by simp⟩

theorem EncodingShape.ldLK (k : BitVec 4) : EncodingShape.Statement (.ldLK k) := by
  have key : ∀ x : BitVec 4, isTwoByte (0xE#4 ++ x) = false := by decide
  exact ⟨rfl, _, _, rfl, key k, by simp⟩

theorem EncodingShape.ldlADC : EncodingShape.Statement .ldlADC := ⟨rfl, _, _, rfl, rfl, by simp⟩

theorem EncodingShape.ldhADCInc : EncodingShape.Statement .ldhADCInc := ⟨rfl, _, _, rfl, rfl, by simp⟩

theorem EncodingShape.stAHL : EncodingShape.Statement .stAHL := ⟨rfl, _, _, rfl, rfl, by simp⟩

theorem EncodingShape.stAHLInc : EncodingShape.Statement .stAHLInc := ⟨rfl, _, _, rfl, rfl, by simp⟩

theorem EncodingShape.stAHLDec : EncodingShape.Statement .stAHLDec := ⟨rfl, _, _, rfl, rfl, by simp⟩

theorem EncodingShape.stAX (x : BitVec 8) : EncodingShape.Statement (.stAX x) := ⟨rfl, _, _, rfl, rfl, by simp⟩

theorem EncodingShape.stKHLInc (k : BitVec 4) : EncodingShape.Statement (.stKHLInc k) := by
  have key : ∀ x : BitVec 4, isTwoByte (0xF#4 ++ x) = false := by decide
  exact ⟨rfl, _, _, rfl, key k, by simp⟩

theorem EncodingShape.stKY (k : BitVec 4) (y : BitVec 4) : EncodingShape.Statement (.stKY k y) := ⟨rfl, _, _, rfl, rfl, by simp⟩

theorem EncodingShape.movHA : EncodingShape.Statement .movHA := ⟨rfl, _, _, rfl, rfl, by simp⟩

theorem EncodingShape.movLA : EncodingShape.Statement .movLA := ⟨rfl, _, _, rfl, rfl, by simp⟩

theorem EncodingShape.xchAH : EncodingShape.Statement .xchAH := ⟨rfl, _, _, rfl, rfl, by simp⟩

theorem EncodingShape.xchAL : EncodingShape.Statement .xchAL := ⟨rfl, _, _, rfl, rfl, by simp⟩

theorem EncodingShape.xchAEIR : EncodingShape.Statement .xchAEIR := ⟨rfl, _, _, rfl, rfl, by simp⟩

theorem EncodingShape.xchAHL : EncodingShape.Statement .xchAHL := ⟨rfl, _, _, rfl, rfl, by simp⟩

theorem EncodingShape.xchAX (x : BitVec 8) : EncodingShape.Statement (.xchAX x) := ⟨rfl, _, _, rfl, rfl, by simp⟩

theorem EncodingShape.xchHLX (x : BitVec 8) : EncodingShape.Statement (.xchHLX x) := ⟨rfl, _, _, rfl, rfl, by simp⟩

theorem EncodingShape.cmprAHL : EncodingShape.Statement .cmprAHL := ⟨rfl, _, _, rfl, rfl, by simp⟩

theorem EncodingShape.cmprAX (x : BitVec 8) : EncodingShape.Statement (.cmprAX x) := ⟨rfl, _, _, rfl, rfl, by simp⟩

theorem EncodingShape.cmprAK (k : BitVec 4) : EncodingShape.Statement (.cmprAK k) := by
  have key : ∀ x : BitVec 4, isTwoByte (0xD#4 ++ x) = false := by decide
  exact ⟨rfl, _, _, rfl, key k, by simp⟩

theorem EncodingShape.cmprHK (k : BitVec 4) : EncodingShape.Statement (.cmprHK k) := ⟨rfl, _, _, rfl, rfl, by simp⟩

theorem EncodingShape.cmprLK (k : BitVec 4) : EncodingShape.Statement (.cmprLK k) := ⟨rfl, _, _, rfl, rfl, by simp⟩

theorem EncodingShape.cmprYK (y : BitVec 4) (k : BitVec 4) : EncodingShape.Statement (.cmprYK y k) := ⟨rfl, _, _, rfl, rfl, by simp⟩

theorem EncodingShape.incA : EncodingShape.Statement .incA := ⟨rfl, _, _, rfl, rfl, by simp⟩

theorem EncodingShape.incL : EncodingShape.Statement .incL := ⟨rfl, _, _, rfl, rfl, by simp⟩

theorem EncodingShape.incHL : EncodingShape.Statement .incHL := ⟨rfl, _, _, rfl, rfl, by simp⟩

theorem EncodingShape.decA : EncodingShape.Statement .decA := ⟨rfl, _, _, rfl, rfl, by simp⟩

theorem EncodingShape.decL : EncodingShape.Statement .decL := ⟨rfl, _, _, rfl, rfl, by simp⟩

theorem EncodingShape.decHL : EncodingShape.Statement .decHL := ⟨rfl, _, _, rfl, rfl, by simp⟩

theorem EncodingShape.addcAHL : EncodingShape.Statement .addcAHL := ⟨rfl, _, _, rfl, rfl, by simp⟩

theorem EncodingShape.addAHL : EncodingShape.Statement .addAHL := ⟨rfl, _, _, rfl, rfl, by simp⟩

theorem EncodingShape.addAK (k : BitVec 4) : EncodingShape.Statement (.addAK k) := ⟨rfl, _, _, rfl, rfl, by simp⟩

theorem EncodingShape.addHK (k : BitVec 4) : EncodingShape.Statement (.addHK k) := ⟨rfl, _, _, rfl, rfl, by simp⟩

theorem EncodingShape.addLK (k : BitVec 4) : EncodingShape.Statement (.addLK k) := ⟨rfl, _, _, rfl, rfl, by simp⟩

theorem EncodingShape.addHLK (k : BitVec 4) : EncodingShape.Statement (.addHLK k) := ⟨rfl, _, _, rfl, rfl, by simp⟩

theorem EncodingShape.addYK (y : BitVec 4) (k : BitVec 4) : EncodingShape.Statement (.addYK y k) := ⟨rfl, _, _, rfl, rfl, by simp⟩

theorem EncodingShape.subrcAHL : EncodingShape.Statement .subrcAHL := ⟨rfl, _, _, rfl, rfl, by simp⟩

theorem EncodingShape.subrAK (k : BitVec 4) : EncodingShape.Statement (.subrAK k) := ⟨rfl, _, _, rfl, rfl, by simp⟩

theorem EncodingShape.subrHLK (k : BitVec 4) : EncodingShape.Statement (.subrHLK k) := ⟨rfl, _, _, rfl, rfl, by simp⟩

theorem EncodingShape.rolcA : EncodingShape.Statement .rolcA := ⟨rfl, _, _, rfl, rfl, by simp⟩

theorem EncodingShape.rorcA : EncodingShape.Statement .rorcA := ⟨rfl, _, _, rfl, rfl, by simp⟩

theorem EncodingShape.andAHL : EncodingShape.Statement .andAHL := ⟨rfl, _, _, rfl, rfl, by simp⟩

theorem EncodingShape.andAK (k : BitVec 4) : EncodingShape.Statement (.andAK k) := ⟨rfl, _, _, rfl, rfl, by simp⟩

theorem EncodingShape.andHLK (k : BitVec 4) : EncodingShape.Statement (.andHLK k) := ⟨rfl, _, _, rfl, rfl, by simp⟩

theorem EncodingShape.orAHL : EncodingShape.Statement .orAHL := ⟨rfl, _, _, rfl, rfl, by simp⟩

theorem EncodingShape.orAK (k : BitVec 4) : EncodingShape.Statement (.orAK k) := ⟨rfl, _, _, rfl, rfl, by simp⟩

theorem EncodingShape.orHLK (k : BitVec 4) : EncodingShape.Statement (.orHLK k) := ⟨rfl, _, _, rfl, rfl, by simp⟩

theorem EncodingShape.xorAHL : EncodingShape.Statement .xorAHL := ⟨rfl, _, _, rfl, rfl, by simp⟩

theorem EncodingShape.testCF : EncodingShape.Statement .testCF := ⟨rfl, _, _, rfl, rfl, by simp⟩

theorem EncodingShape.testAB (b : BitVec 2) : EncodingShape.Statement (.testAB b) := by
  have key : ∀ x : BitVec 2, isTwoByte (0b010111#6 ++ x) = false := by decide
  exact ⟨rfl, _, _, rfl, key b, by simp⟩

theorem EncodingShape.testHLB (b : BitVec 2) : EncodingShape.Statement (.testHLB b) := by
  have key : ∀ x : BitVec 2, isTwoByte (0b010110#6 ++ x) = false := by decide
  exact ⟨rfl, _, _, rfl, key b, by simp⟩

theorem EncodingShape.testYB (y : BitVec 4) (b : BitVec 2) : EncodingShape.Statement (.testYB y b) := ⟨rfl, _, _, rfl, rfl, by simp⟩

theorem EncodingShape.testPB (p : BitVec 4) (b : BitVec 2) : EncodingShape.Statement (.testPB p b) := ⟨rfl, _, _, rfl, rfl, by simp⟩

theorem EncodingShape.testL : EncodingShape.Statement .testL := ⟨rfl, _, _, rfl, rfl, by simp⟩

theorem EncodingShape.testpCF : EncodingShape.Statement .testpCF := ⟨rfl, _, _, rfl, rfl, by simp⟩

theorem EncodingShape.testpZF : EncodingShape.Statement .testpZF := ⟨rfl, _, _, rfl, rfl, by simp⟩

theorem EncodingShape.testpGF : EncodingShape.Statement .testpGF := ⟨rfl, _, _, rfl, rfl, by simp⟩

theorem EncodingShape.testpYB (y : BitVec 4) (b : BitVec 2) : EncodingShape.Statement (.testpYB y b) := ⟨rfl, _, _, rfl, rfl, by simp⟩

theorem EncodingShape.testpPB (p : BitVec 4) (b : BitVec 2) : EncodingShape.Statement (.testpPB p b) := ⟨rfl, _, _, rfl, rfl, by simp⟩

theorem EncodingShape.setGF : EncodingShape.Statement .setGF := ⟨rfl, _, _, rfl, rfl, by simp⟩

theorem EncodingShape.setHLB (b : BitVec 2) : EncodingShape.Statement (.setHLB b) := by
  have key : ∀ x : BitVec 2, isTwoByte (0b010100#6 ++ x) = false := by decide
  exact ⟨rfl, _, _, rfl, key b, by simp⟩

theorem EncodingShape.setYB (y : BitVec 4) (b : BitVec 2) : EncodingShape.Statement (.setYB y b) := ⟨rfl, _, _, rfl, rfl, by simp⟩

theorem EncodingShape.setPB (p : BitVec 4) (b : BitVec 2) : EncodingShape.Statement (.setPB p b) := ⟨rfl, _, _, rfl, rfl, by simp⟩

theorem EncodingShape.setL : EncodingShape.Statement .setL := ⟨rfl, _, _, rfl, rfl, by simp⟩

theorem EncodingShape.clrGF : EncodingShape.Statement .clrGF := ⟨rfl, _, _, rfl, rfl, by simp⟩

theorem EncodingShape.clrHLB (b : BitVec 2) : EncodingShape.Statement (.clrHLB b) := by
  have key : ∀ x : BitVec 2, isTwoByte (0b010101#6 ++ x) = false := by decide
  exact ⟨rfl, _, _, rfl, key b, by simp⟩

theorem EncodingShape.clrYB (y : BitVec 4) (b : BitVec 2) : EncodingShape.Statement (.clrYB y b) := ⟨rfl, _, _, rfl, rfl, by simp⟩

theorem EncodingShape.clrPB (p : BitVec 4) (b : BitVec 2) : EncodingShape.Statement (.clrPB p b) := ⟨rfl, _, _, rfl, rfl, by simp⟩

theorem EncodingShape.clrL : EncodingShape.Statement .clrL := ⟨rfl, _, _, rfl, rfl, by simp⟩

theorem EncodingShape.clrIL (r : BitVec 6) : EncodingShape.Statement (.clrIL r) := ⟨rfl, _, _, rfl, rfl, by simp⟩

theorem EncodingShape.eiclrIL (r : BitVec 6) : EncodingShape.Statement (.eiclrIL r) := ⟨rfl, _, _, rfl, rfl, by simp⟩

theorem EncodingShape.diclrIL (r : BitVec 6) : EncodingShape.Statement (.diclrIL r) := ⟨rfl, _, _, rfl, rfl, by simp⟩

theorem EncodingShape.inPA (p : BitVec 4) : EncodingShape.Statement (.inPA p) := ⟨rfl, _, _, rfl, rfl, by simp⟩

theorem EncodingShape.inPHL (p : BitVec 4) : EncodingShape.Statement (.inPHL p) := ⟨rfl, _, _, rfl, rfl, by simp⟩

theorem EncodingShape.outAP (p : BitVec 5) : EncodingShape.Statement (.outAP p) := ⟨rfl, _, _, rfl, rfl, by simp⟩

theorem EncodingShape.outHLP (p : BitVec 5) : EncodingShape.Statement (.outHLP p) := ⟨rfl, _, _, rfl, rfl, by simp⟩

theorem EncodingShape.outKP (k : BitVec 4) (p : BitVec 4) : EncodingShape.Statement (.outKP k p) := ⟨rfl, _, _, rfl, rfl, by simp⟩

theorem EncodingShape.outbHL : EncodingShape.Statement .outbHL := ⟨rfl, _, _, rfl, rfl, by simp⟩

theorem EncodingShape.bs (a : BitVec 12) : EncodingShape.Statement (.bs a) := by
  have key : ∀ x : BitVec 4, isTwoByte (0x6#4 ++ x) = true := by decide
  exact ⟨rfl, _, _, rfl, key _, by simp⟩

theorem EncodingShape.bss (d : BitVec 6) : EncodingShape.Statement (.bss d) := by
  have key : ∀ x : BitVec 6, isTwoByte (0b10#2 ++ x) = false := by decide
  exact ⟨rfl, _, _, rfl, key d, by simp⟩

theorem EncodingShape.call (a : BitVec 11) : EncodingShape.Statement (.call a) := by
  have key : ∀ x : BitVec 3, isTwoByte (0b00100#5 ++ x) = true := by decide
  exact ⟨rfl, _, _, rfl, key _, by simp⟩

theorem EncodingShape.calls (n : BitVec 4) : EncodingShape.Statement (.calls n) := by
  have key : ∀ x : BitVec 4, isTwoByte (0x7#4 ++ x) = false := by decide
  exact ⟨rfl, _, _, rfl, key n, by simp⟩

theorem EncodingShape.ret : EncodingShape.Statement .ret := ⟨rfl, _, _, rfl, rfl, by simp⟩

theorem EncodingShape.reti : EncodingShape.Statement .reti := ⟨rfl, _, _, rfl, rfl, by simp⟩

theorem EncodingShape.nop : EncodingShape.Statement .nop := ⟨rfl, _, _, rfl, rfl, by simp⟩

end Sys2Proof.Laws
end

