-- ==== Sys2Proof/Laws/Step.lean ====
section
/-! SUPPORT. Everything a step can do, said once: the proofs about steps cite these and unfold nothing. -/

namespace Sys2Proof.Machine

variable {s t : State}

/-- What the decision point can answer. -/
theorem decisionPoint_next (h : decisionPoint s = .next t) :
    (pendingFactor s = none ∧ t = s) ∨
      (∃ f, pendingFactor s = some f ∧ spw s ≠ forbiddenLevel ∧ t = ticks 2 (acceptInterrupt f s)) := by
  unfold decisionPoint at h
  split at h
  · next hp => exact .inl ⟨hp, by injection h with h; exact h.symm⟩
  · next f hp =>
    split at h
    · cases h
    · next hl => exact .inr ⟨f, hp, hl, by injection h with h; exact h.symm⟩

theorem completeStep_next {n : Nat} (h : completeStep n s = .next t) :
    ∃ u, decisionPoint (afterInstruction n s) = .next u ∧ t = nextEnv u := by
  unfold completeStep at h
  split at h
  · next u hu => exact ⟨u, hu, by injection h with h; exact h.symm⟩
  · cases h
  · cases h

/-- A step that has a next state is a reset, an abandoned step, a power-up, or an instruction with all that follows it (R315). -/
theorem step_next (h : step s = .next t) :
    (s.env.event = .reset ∧ t = nextEnv (resetMachine s)) ∨
      (s.env.event = .resetInStep ∧ t = nextEnv (abandonStep s)) ∨
      (s.env.event = .powerUp ∧ t = nextEnv (powerUpMachine s)) ∨
      (s.env.event = .run ∧ ∃ i u v, fetch s = .ok i ∧ exec i s = .next u ∧
        decisionPoint (afterInstruction (instrCycles i) u) = .next v ∧ t = nextEnv v) := by
  unfold step at h
  split at h
  · next he => exact .inl ⟨he, by injection h with h; exact h.symm⟩
  · next he => exact .inr (.inl ⟨he, by injection h with h; exact h.symm⟩)
  · next he => exact .inr (.inr (.inl ⟨he, by injection h with h; exact h.symm⟩))
  · next he =>
    split at h
    · cases h
    · next i hf =>
      split at h
      · next u hu =>
        obtain ⟨v, hv, ht⟩ := completeStep_next h
        exact .inr (.inr (.inr ⟨he, i, u, v, hf, hu, hv, ht⟩))
      · cases h
      · cases h

/-- A property that a cycle and a count operation keep is kept by all that follows an instruction. -/
theorem afterInstruction_induction (P : State → Prop) (htick : ∀ s, P s → P (tick s))
    (hcount : ∀ ch s, P s → P (countOperation ch s)) (n : Nat) (h : P s) : P (afterInstruction n s) := by
  have hticks : ∀ n s, P s → P (ticks n s) := by
    intro n
    induction n with
    | zero => exact fun s h => h
    | succ k ih => exact fun s h => ih (tick s) (htick s h)
  have hcounts : ∀ fuel s, P s → P (countRequests fuel s) := by
    intro fuel
    induction fuel with
    | zero => exact fun s h => h
    | succ k ih =>
      intro s h
      unfold countRequests
      split
      · exact ih _ (htick _ (hcount _ _ h))
      · split
        · exact ih _ (htick _ (hcount _ _ h))
        · exact h
  exact hcounts countBound _ (hticks n s h)

end Sys2Proof.Machine
end

