-- ==== Sys2Proof/Tests/Slice0.lean ====
section
/-! SUPPORT. Tests: the well-formedness smoke test, one word per constructor written out from 30_encoding.md, one-step
tests with the examples of the instruction rules (each names its rule), and for every statement of Obligations.lean with
hypotheses a witness that they can be met, at the boundary values of its clauses. -/

open Sys2Proof Sys2Proof.Machine

namespace Sys2Proof.Tests

/-! Helpers -/

/-- The instruction some bytes hold, where they hold exactly one. -/
def reads (bytes : List Byte) : Option Instr :=
  match decode bytes with
  | .ok (i, []) => some i
  | _ => none

/-- A test state: the reset state with PC = 100 and the given registers and RAM. -/
def st (ac hr lr : Nibble) (cf zf sf : Bool) (ram : Memory 4) : State :=
  { State.reset with pc := 0x100, ac := ac, hr := hr, lr := lr, cf := cf, zf := zf, sf := sf, ram := ram }

/-- The state after an instruction, where there is one. -/
def aft (i : Instr) (s : State) : Option State :=
  match exec i s with
  | .next t => some t
  | _ => none

/-- AC, H, L, the flags CF, ZF, SF and PC after an instruction. -/
def regs (i : Instr) (s : State) : Option (Nibble × Nibble × Nibble × List Bool × RomAddr) :=
  (aft i s).map fun t => (t.ac, t.hr, t.lr, [t.cf, t.zf, t.sf], t.pc)

/-- ZF, SF and a word of RAM after an instruction. -/
def word (i : Instr) (s : State) (a : RamAddr) : Option (Bool × Bool × Nibble) :=
  (aft i s).map fun t => (t.zf, t.sf, memRead t a)

/-- The refusal of an instruction, where it is refused. -/
def stop (i : Instr) (s : State) : Option Refusal :=
  match exec i s with
  | .refused r => some r
  | _ => none

/-- `st` with a serial command and the serial flags SIOF, SBFULL, SRFULL. -/
def sioSt (cmd : Nibble) (siof sbFull srFull : Bool) : State :=
  { State.reset with
    cmds := { State.reset.cmds with cmd1F := cmd }
    sio := { State.reset.sio with siof := siof, sbFull := sbFull, srFull := srFull } }

/-! Well-formedness: a refused term for each check, at a port R80 does not mark, and an accepted one -/

theorem test_wellFormed_testPB :
    Instr.wellFormed (.testPB 0xF 0) = false ∧ Instr.wellFormed (.testPB 0xE 3) = true := by decide

theorem test_wellFormed_testpPB :
    Instr.wellFormed (.testpPB 0xF 0) = false ∧ Instr.wellFormed (.testpPB 0x0 1) = true := by decide

theorem test_wellFormed_setPB :
    Instr.wellFormed (.setPB 0x0 0) = false ∧ Instr.wellFormed (.setPB 0x9 3) = true := by decide

theorem test_wellFormed_clrPB :
    Instr.wellFormed (.clrPB 0xE 0) = false ∧ Instr.wellFormed (.clrPB 0x1 0) = true := by decide

theorem test_wellFormed_inPA :
    Instr.wellFormed (.inPA 0x3) = false ∧ Instr.wellFormed (.inPA 0xF) = true := by decide

theorem test_wellFormed_inPHL :
    Instr.wellFormed (.inPHL 0xA) = false ∧ Instr.wellFormed (.inPHL 0x0) = true := by decide

theorem test_wellFormed_outKP :
    Instr.wellFormed (.outKP 1 0xE) = false ∧ Instr.wellFormed (.outKP 1 0xF) = true := by decide

theorem test_wellFormed_outAP :
    Instr.wellFormed (.outAP 0x11) = false ∧ Instr.wellFormed (.outAP 0x1F) = true := by decide

theorem test_wellFormed_outHLP :
    Instr.wellFormed (.outHLP 0x0E) = false ∧ Instr.wellFormed (.outHLP 0x19) = true := by decide

/-! Decoding: one word for every constructor (R120-R128, the examples of the instruction rules) -/

theorem test_decode_move :
    reads [0x0C] = some .ldAHL ∧ reads [0x3C, 0xFF] = some (.ldAX 0xFF) ∧ reads [0x4A] = some (.ldAK 0xA) ∧
      reads [0x28, 0x12] = some (.ldHLX 0x12) ∧ reads [0xCF] = some (.ldHK 0xF) ∧ reads [0xE0] = some (.ldLK 0x0) ∧
      reads [0x33] = some .ldlADC ∧ reads [0x32] = some .ldhADCInc ∧ reads [0x0F] = some .stAHL ∧
      reads [0x1A] = some .stAHLInc ∧ reads [0x1B] = some .stAHLDec ∧ reads [0x3F, 0x95] = some (.stAX 0x95) ∧
      reads [0xF5] = some (.stKHLInc 5) ∧ reads [0x2D, 0xA3] = some (.stKY 0xA 0x3) ∧ reads [0x10] = some .movHA ∧
      reads [0x11] = some .movLA ∧ reads [0x30] = some .xchAH ∧ reads [0x31] = some .xchAL ∧
      reads [0x13] = some .xchAEIR ∧ reads [0x0D] = some .xchAHL ∧ reads [0x3D, 0x40] = some (.xchAX 0x40) ∧
      reads [0x29, 0x23] = some (.xchHLX 0x23) := by decide

theorem test_decode_compare :
    reads [0x16] = some .cmprAHL ∧ reads [0x3E, 0x30] = some (.cmprAX 0x30) ∧ reads [0xD7] = some (.cmprAK 7) ∧
      reads [0x38, 0xD3] = some (.cmprHK 3) ∧ reads [0x38, 0x9A] = some (.cmprLK 0xA) ∧
      reads [0x2E, 0x52] = some (.cmprYK 0x2 0x5) := by decide

theorem test_decode_arithmetic :
    reads [0x08] = some .incA ∧ reads [0x18] = some .incL ∧ reads [0x0A] = some .incHL ∧ reads [0x09] = some .decA ∧
      reads [0x19] = some .decL ∧ reads [0x0B] = some .decHL ∧ reads [0x15] = some .addcAHL ∧
      reads [0x17] = some .addAHL ∧ reads [0x38, 0x06] = some (.addAK 6) ∧ reads [0x38, 0xCF] = some (.addHK 0xF) ∧
      reads [0x38, 0x83] = some (.addLK 3) ∧ reads [0x38, 0x48] = some (.addHLK 8) ∧
      reads [0x2F, 0x15] = some (.addYK 0x5 0x1) ∧ reads [0x14] = some .subrcAHL ∧
      reads [0x38, 0x13] = some (.subrAK 3) ∧ reads [0x38, 0x52] = some (.subrHLK 2) := by decide

theorem test_decode_logical :
    reads [0x05] = some .rolcA ∧ reads [0x07] = some .rorcA ∧ reads [0x1E] = some .andAHL ∧
      reads [0x38, 0x34] = some (.andAK 4) ∧ reads [0x38, 0x73] = some (.andHLK 3) ∧ reads [0x1D] = some .orAHL ∧
      reads [0x38, 0x24] = some (.orAK 4) ∧ reads [0x38, 0x60] = some (.orHLK 0) ∧ reads [0x1F] = some .xorAHL := by decide

theorem test_decode_bit_test :
    reads [0x06] = some .testCF ∧ reads [0x5D] = some (.testAB 1) ∧ reads [0x5A] = some (.testHLB 2) ∧
      reads [0x39, 0x97] = some (.testYB 7 1) ∧ reads [0x3B, 0xA0] = some (.testPB 0 2) ∧
      reads [0x37] = some .testL ∧ reads [0x04] = some .testpCF ∧ reads [0x0E] = some .testpZF ∧
      reads [0x01] = some .testpGF ∧ reads [0x39, 0xC7] = some (.testpYB 7 0) ∧
      reads [0x3B, 0xFE] = some (.testpPB 0xE 3) := by decide

theorem test_decode_bit_change :
    reads [0x03] = some .setGF ∧ reads [0x53] = some (.setHLB 3) ∧ reads [0x39, 0x2F] = some (.setYB 0xF 2) ∧
      reads [0x3B, 0x28] = some (.setPB 8 2) ∧ reads [0x34] = some .setL ∧ reads [0x02] = some .clrGF ∧
      reads [0x55] = some (.clrHLB 1) ∧ reads [0x39, 0x53] = some (.clrYB 3 1) ∧
      reads [0x3B, 0x51] = some (.clrPB 1 1) ∧ reads [0x35] = some .clrL ∧
      reads [0x36, 0xDF] = some (.clrIL 0b011111) ∧ reads [0x36, 0x7F] = some (.eiclrIL 0b111111) ∧
      reads [0x36, 0xBF] = some (.diclrIL 0b111111) := by decide

theorem test_decode_io :
    reads [0x3A, 0x20] = some (.inPA 0) ∧ reads [0x3A, 0x64] = some (.inPHL 4) ∧
      reads [0x3A, 0xA9] = some (.outAP 0x19) ∧ reads [0x3A, 0xEF] = some (.outHLP 0x1F) ∧
      reads [0x2C, 0xF8] = some (.outKP 0xF 0x8) ∧ reads [0x12] = some .outbHL ∧
      reads [0x3A, 0x81] = some (.outAP 0x01) ∧ reads [0x3A, 0xCF] = some (.outHLP 0x0F) := by decide

theorem test_decode_branch :
    reads [0x6F, 0x00] = some (.bs 0xF00) ∧ reads [0x9C] = some (.bss 0x1C) ∧
      reads [0x23, 0x45] = some (.call 0x345) ∧ reads [0x73] = some (.calls 3) ∧ reads [0x2A] = some .ret ∧
      reads [0x2B] = some .reti ∧ reads [0x00] = some .nop := by decide

theorem test_decode_reserved :
    reads [0x1C] = none ∧ reads [0x36, 0x3F] = none ∧ reads [0x38, 0xA0] = none ∧ reads [0x38, 0xE0] = none ∧
      reads [0x3A, 0x00] = none ∧ reads [0x3A, 0x90] = none ∧ reads [0x3A, 0xF0] = none := by decide

theorem test_decodeTableWord :
    decodeTableWord 8 0x0C = some .ldAHL ∧ decodeTableWord 16 0x2345 = some (.call 0x345) := by decide

theorem test_withFetchWord : fetch ((st 0 0 0 false false true []).withFetchWord 16 0x2345) = .ok (.call 0x345) := by rfl

/-! One step, the ALU examples of 95_test_vectors.md E1 -/

theorem test_alu_examples :
    add4 4 5 false = (9, false) ∧ add4 7 9 false = (0, true) ∧ sub4 3 1 true = (2, true) ∧
      sub4 2 2 true = (0, true) ∧ sub4 6 8 true = (0xE, false) := by decide

/-! One step, the move instructions (40_move.md) -/

/-- R150, example. -/
theorem test_ldAHL :
    regs .ldAHL (st 0x5 0x2 0x5 false false false []) =
      some (0x0, 0x2, 0x5, [false, true, true], 0x101) := by decide

/-- R151, example. -/
theorem test_ldAX :
    regs (.ldAX 0xFF) (st 0x0 0x2 0x5 false true false [(0xFF, 0xC)]) =
      some (0xC, 0x2, 0x5, [false, false, true], 0x102) := by decide

/-- R152, example. -/
theorem test_ldAK :
    regs (.ldAK 0xA) (st 0x0 0x0 0x0 true true false []) =
      some (0xA, 0x0, 0x0, [true, false, true], 0x101) := by decide

/-- R153, example. -/
theorem test_ldHLX :
    regs (.ldHLX 0x12) (st 0x1 0x0 0x0 false true false [(0x10, 0x7), (0x11, 0x3)]) =
      some (0x1, 0x3, 0x7, [false, true, true], 0x102) := by decide

/-- R154, example. -/
theorem test_ldHK :
    regs (.ldHK 0xF) (st 0x1 0x0 0x0 false true false []) =
      some (0x1, 0xF, 0x0, [false, true, true], 0x101) := by decide

/-- R155, example. -/
theorem test_ldLK :
    regs (.ldLK 0x0) (st 0x1 0x0 0x5 false false false []) =
      some (0x1, 0x0, 0x0, [false, false, true], 0x101) := by decide

/-- A state with DC = 123 and ROM[123] = A7 (the examples of R157 and R158). -/
def dcSt : State := { st 0 0 0 false true false [(0xFC, 3), (0xFD, 2), (0xFE, 1)] with rom := [(0x123, 0xA7)] }

/-- R157, example. -/
theorem test_ldlADC : (aft .ldlADC dcSt).map (fun t => (t.ac, t.zf, t.sf)) = some (7, false, true) := by decide

/-- R158, example. -/
theorem test_ldhADCInc :
    (aft .ldhADCInc dcSt).map (fun t => (t.ac, memRead t 0xFC, memRead t 0xFD, memRead t 0xFE)) =
      some (0xA, 4, 2, 1) := by decide

/-- R158: FFF wraps to 000, and the canonical form lists no zero. -/
theorem test_ldhADCInc_wraps :
    (aft .ldhADCInc (st 0 0 0 false false true [(0xFC, 0xF), (0xFD, 0xF), (0xFE, 0xF)])).map (fun t => t.ram) =
      some [] := by decide

/-- R159, example. -/
theorem test_stAHL :
    word .stAHL (st 0xC 0xF 0xF false false false []) 0xFF =
      some (false, true, 0xC) := by decide

/-- R160, example. -/
theorem test_stAHLInc :
    word .stAHLInc (st 0x5 0x1 0xF false false true []) 0x1F =
      some (true, false, 0x5) := by decide

/-- R160, example. -/
theorem test_stAHLInc_L :
    regs .stAHLInc (st 0x5 0x1 0xF false false true []) =
      some (0x5, 0x1, 0x0, [false, true, false], 0x101) := by decide

/-- R161, example. -/
theorem test_stAHLDec_L :
    regs .stAHLDec (st 0x5 0x1 0x0 false true true []) =
      some (0x5, 0x1, 0xF, [false, false, false], 0x101) := by decide

/-- R161, corner case LR = 1. -/
theorem test_stAHLDec_one :
    regs .stAHLDec (st 0x5 0x1 0x1 false false false []) =
      some (0x5, 0x1, 0x0, [false, true, true], 0x101) := by decide

/-- R162, example. -/
theorem test_stAX :
    word (.stAX 0xFF) (st 0xC 0x0 0x0 false true false []) 0xFF =
      some (true, true, 0xC) := by decide

/-- R163, example. -/
theorem test_stKHLInc_L :
    regs (.stKHLInc 9) (st 0x0 0x0 0x3 false true false []) =
      some (0x0, 0x0, 0x4, [false, false, true], 0x101) := by decide

/-- R163, example. -/
theorem test_stKHLInc :
    word (.stKHLInc 9) (st 0x0 0x0 0x3 false true false []) 0x03 =
      some (false, true, 0x9) := by decide

/-- R164, example. -/
theorem test_stKY :
    word (.stKY 0xA 0x3) (st 0x0 0x5 0x5 false true false []) 0x03 =
      some (true, true, 0xA) := by decide

/-- R165, example. -/
theorem test_movHA :
    regs .movHA (st 0x5 0x0 0x1 true false false []) =
      some (0x0, 0x0, 0x1, [true, true, true], 0x101) := by decide

/-- R166, example. -/
theorem test_movLA :
    regs .movLA (st 0x0 0x1 0x9 false true false []) =
      some (0x9, 0x1, 0x9, [false, false, true], 0x101) := by decide

/-- R167, example. -/
theorem test_xchAH :
    regs .xchAH (st 0x0 0x7 0x1 false true false []) =
      some (0x7, 0x0, 0x1, [false, false, true], 0x101) := by decide

/-- R168, example. -/
theorem test_xchAL :
    regs .xchAL (st 0x3 0x1 0x0 false false false []) =
      some (0x0, 0x1, 0x3, [false, true, true], 0x101) := by decide

/-- R169, example: ZF unchanged. -/
theorem test_xchAEIR :
    (aft .xchAEIR (st 0xF 0 0 false false false [])).map (fun t => (t.ac, t.eir, t.zf, t.sf)) =
      some (0, 0xF, false, true) := by decide

/-- R170, example. -/
theorem test_xchAHL_ac :
    regs .xchAHL (st 0x2 0x4 0x4 false false false []) =
      some (0x0, 0x4, 0x4, [false, true, true], 0x101) := by decide

/-- R170, example. -/
theorem test_xchAHL :
    word .xchAHL (st 0x2 0x4 0x4 false false false []) 0x44 =
      some (true, true, 0x2) := by decide

/-- R171, example. -/
theorem test_xchAX_ac :
    regs (.xchAX 0x40) (st 0x9 0x0 0x0 false true false [(0x40, 0x6)]) =
      some (0x6, 0x0, 0x0, [false, false, true], 0x102) := by decide

/-- R171, example. -/
theorem test_xchAX :
    word (.xchAX 0x40) (st 0x9 0x0 0x0 false true false [(0x40, 0x6)]) 0x40 =
      some (false, true, 0x9) := by decide

/-- R172, example. -/
theorem test_xchHLX_hl :
    regs (.xchHLX 0x23) (st 0x0 0x1 0x2 false true false [(0x20, 0x8), (0x21, 0x9)]) =
      some (0x0, 0x9, 0x8, [false, true, true], 0x102) := by decide

/-- R172, example. -/
theorem test_xchHLX :
    word (.xchHLX 0x23) (st 0x0 0x1 0x2 false true false [(0x20, 0x8), (0x21, 0x9)]) 0x21 =
      some (true, true, 0x1) := by decide

/-! One step, the compare instructions (41_compare.md) -/

/-- R181, example. -/
theorem test_cmprAHL :
    regs .cmprAHL (st 0x8 0x0 0x1 true true false [(0x01, 0x6)]) =
      some (0x8, 0x0, 0x1, [false, false, true], 0x101) := by decide

/-- R182, example. -/
theorem test_cmprAX :
    regs (.cmprAX 0x30) (st 0x5 0x0 0x0 false false true [(0x30, 0x5)]) =
      some (0x5, 0x0, 0x0, [true, true, false], 0x102) := by decide

/-- R183, example. -/
theorem test_cmprAK :
    regs (.cmprAK 7) (st 0x9 0x0 0x0 true true false []) =
      some (0x9, 0x0, 0x0, [false, false, true], 0x101) := by decide

/-- R184, example: CF unchanged. -/
theorem test_cmprHK :
    regs (.cmprHK 3) (st 0x0 0x3 0x0 false false true []) =
      some (0x0, 0x3, 0x0, [false, true, false], 0x102) := by decide

/-- R185, example: CF unchanged. -/
theorem test_cmprLK :
    regs (.cmprLK 0xA) (st 0x0 0x0 0x4 true true false []) =
      some (0x0, 0x0, 0x4, [true, false, true], 0x102) := by decide

/-- R186, example. -/
theorem test_cmprYK :
    regs (.cmprYK 0x2 0x5) (st 0x0 0x0 0x0 false true false [(0x02, 0x3)]) =
      some (0x0, 0x0, 0x0, [true, false, true], 0x102) := by decide

/-! One step, the arithmetic instructions (42_arithmetic.md) -/

/-- R191, corner case. -/
theorem test_incA_wraps :
    regs .incA (st 0xF 0x0 0x0 true false true []) =
      some (0x0, 0x0, 0x0, [true, true, false], 0x101) := by decide

/-- R192, example. -/
theorem test_incL_wraps :
    regs .incL (st 0x0 0x3 0xF false false true []) =
      some (0x0, 0x3, 0x0, [false, true, false], 0x101) := by decide

/-- R193, example. -/
theorem test_incHL :
    word .incHL (st 0x0 0x0 0x1 false true false [(0x01, 0x7)]) 0x01 =
      some (false, true, 0x8) := by decide

/-- R193, corner case. -/
theorem test_incHL_wraps :
    word .incHL (st 0x0 0x0 0x1 false false true [(0x01, 0xF)]) 0x01 =
      some (true, false, 0x0) := by decide

/-- R194, example. -/
theorem test_decA :
    regs .decA (st 0x0 0x0 0x0 false true true []) =
      some (0xF, 0x0, 0x0, [false, false, false], 0x101) := by decide

/-- R195, example. -/
theorem test_decL :
    regs .decL (st 0x0 0x0 0x1 false false false []) =
      some (0x0, 0x0, 0x0, [false, true, true], 0x101) := by decide

/-- R196, example. -/
theorem test_decHL :
    word .decHL (st 0x0 0x0 0x1 false true true []) 0x01 =
      some (false, false, 0xF) := by decide

/-- R197, example. -/
theorem test_addcAHL :
    regs .addcAHL (st 0x7 0x0 0x1 false false true [(0x01, 0x9)]) =
      some (0x0, 0x0, 0x1, [true, true, false], 0x101) := by decide

/-- R197, corner case. -/
theorem test_addcAHL_carry_in :
    regs .addcAHL (st 0xF 0x0 0x1 true true true [(0x01, 0xF)]) =
      some (0xF, 0x0, 0x1, [true, false, false], 0x101) := by decide

/-- R198, example. -/
theorem test_addAHL :
    regs .addAHL (st 0x4 0x0 0x1 false true false [(0x01, 0x5)]) =
      some (0x9, 0x0, 0x1, [false, false, true], 0x101) := by decide

/-- R199, example: the carry only in SF. -/
theorem test_addAK :
    regs (.addAK 6) (st 0xC 0x0 0x0 false false true []) =
      some (0x2, 0x0, 0x0, [false, false, false], 0x102) := by decide

/-- R200, example. -/
theorem test_addHK :
    regs (.addHK 0xF) (st 0x0 0x3 0x0 false true true []) =
      some (0x0, 0x2, 0x0, [false, false, false], 0x102) := by decide

/-- R201, example. -/
theorem test_addLK :
    regs (.addLK 3) (st 0x0 0x0 0xE false true true []) =
      some (0x0, 0x0, 0x1, [false, false, false], 0x102) := by decide

/-- R202, example. -/
theorem test_addHLK :
    word (.addHLK 8) (st 0x0 0x0 0x1 false false true [(0x01, 0x8)]) 0x01 =
      some (true, false, 0x0) := by decide

/-- R203, example. -/
theorem test_addYK :
    word (.addYK 0x5 0x1) (st 0x0 0x3 0x3 false false true [(0x05, 0xF)]) 0x05 =
      some (true, false, 0x0) := by decide

/-- R204, example. -/
theorem test_subrcAHL :
    regs .subrcAHL (st 0x8 0x0 0x1 true true true [(0x01, 0x6)]) =
      some (0xE, 0x0, 0x1, [false, false, false], 0x101) := by decide

/-- R204, corner case. -/
theorem test_subrcAHL_borrow_in :
    regs .subrcAHL (st 0x0 0x0 0x1 false true true []) =
      some (0xF, 0x0, 0x1, [false, false, false], 0x101) := by decide

/-- R205, example. -/
theorem test_subrAK :
    regs (.subrAK 3) (st 0x1 0x0 0x0 false true false []) =
      some (0x2, 0x0, 0x0, [false, false, true], 0x102) := by decide

/-- R206, example. -/
theorem test_subrHLK :
    word (.subrHLK 2) (st 0x0 0x0 0x1 false false false [(0x01, 0x2)]) 0x01 =
      some (true, true, 0x0) := by decide

/-! One step, the logical instructions (43_logical.md) -/

/-- R216, example. -/
theorem test_rolcA :
    regs .rolcA (st 0x5 0x0 0x0 true true false []) =
      some (0xB, 0x0, 0x0, [false, false, true], 0x101) := by decide

/-- R216, corner case. -/
theorem test_rolcA_out :
    regs .rolcA (st 0x8 0x0 0x0 false false true []) =
      some (0x0, 0x0, 0x0, [true, true, false], 0x101) := by decide

/-- R217, example. -/
theorem test_rorcA :
    regs .rorcA (st 0x6 0x0 0x0 true true false []) =
      some (0xB, 0x0, 0x0, [false, false, true], 0x101) := by decide

/-- R217, corner case. -/
theorem test_rorcA_out :
    regs .rorcA (st 0x1 0x0 0x0 false false true []) =
      some (0x0, 0x0, 0x0, [true, true, false], 0x101) := by decide

/-- R218, example. -/
theorem test_andAHL :
    regs .andAHL (st 0xC 0x0 0x1 true true false [(0x01, 0xA)]) =
      some (0x8, 0x0, 0x1, [true, false, true], 0x101) := by decide

/-- R219, example. -/
theorem test_andAK :
    regs (.andAK 4) (st 0x7 0x0 0x0 false true false []) =
      some (0x4, 0x0, 0x0, [false, false, true], 0x102) := by decide

/-- R220, example. -/
theorem test_andHLK :
    word (.andHLK 3) (st 0x0 0x0 0x1 false true false [(0x01, 0xF)]) 0x01 =
      some (false, true, 0x3) := by decide

/-- R221, example. -/
theorem test_orAHL :
    regs .orAHL (st 0x1 0x0 0x1 false true false [(0x01, 0x8)]) =
      some (0x9, 0x0, 0x1, [false, false, true], 0x101) := by decide

/-- R222, example. -/
theorem test_orAK :
    regs (.orAK 4) (st 0x2 0x0 0x0 false true false []) =
      some (0x6, 0x0, 0x0, [false, false, true], 0x102) := by decide

/-- R223, example. -/
theorem test_orHLK :
    word (.orHLK 0) (st 0x0 0x0 0x1 false false true []) 0x01 =
      some (true, false, 0x0) := by decide

/-- R224, example. -/
theorem test_xorAHL :
    regs .xorAHL (st 0xC 0x0 0x1 false true false [(0x01, 0xA)]) =
      some (0x6, 0x0, 0x1, [false, false, true], 0x101) := by decide

/-! One step, the bit manipulation instructions (44_bit.md) -/

/-- R231, example. -/
theorem test_testCF :
    regs .testCF (st 0x0 0x0 0x0 true false true []) =
      some (0x0, 0x0, 0x0, [false, false, false], 0x101) := by decide

/-- R232, example. -/
theorem test_testAB :
    regs (.testAB 1) (st 0xA 0x0 0x0 false false true []) =
      some (0xA, 0x0, 0x0, [false, false, false], 0x101) := by decide

/-- R232, example. -/
theorem test_testAB_clear :
    regs (.testAB 0) (st 0xA 0x0 0x0 false false false []) =
      some (0xA, 0x0, 0x0, [false, false, true], 0x101) := by decide

/-- R233, example. -/
theorem test_testHLB :
    regs (.testHLB 2) (st 0x0 0x0 0x1 false false true [(0x01, 0x4)]) =
      some (0x0, 0x0, 0x1, [false, false, false], 0x101) := by decide

/-- R234, example. -/
theorem test_testYB :
    regs (.testYB 7 1) (st 0x0 0x5 0x5 false false false [(0x07, 0x1)]) =
      some (0x0, 0x5, 0x5, [false, false, true], 0x102) := by decide

/-- R235, example: K0 = 1011. -/
theorem test_testPB :
    (aft (.testPB 0 2) { State.reset with env := { Env.allHigh with k0 := 0b1011 } }).map (fun t => t.sf) =
      some true := by decide

/-- R236, example: LR = 6 selects R52, which is high. -/
theorem test_testL : (aft .testL (st 0 0 6 false false true [])).map (fun t => t.sf) = some false := by decide

/-- R236: the pin is read, not the latch. -/
theorem test_testL_pin :
    (aft .testL { st 0 0 6 false false false [] with env := { Env.allHigh with r5 := 0b1011 } }).map (fun t => t.sf) =
      some true := by decide

/-- R237, example. -/
theorem test_testpCF :
    regs .testpCF (st 0x0 0x0 0x0 false false true []) =
      some (0x0, 0x0, 0x0, [true, false, false], 0x101) := by decide

/-- R238, example. -/
theorem test_testpZF :
    regs .testpZF (st 0x0 0x0 0x0 false true false []) =
      some (0x0, 0x0, 0x0, [false, true, true], 0x101) := by decide

/-- R239, example. -/
theorem test_testpGF :
    regs .testpGF (st 0x0 0x0 0x0 false false true []) =
      some (0x0, 0x0, 0x0, [false, false, false], 0x101) := by decide

/-- R240, example. -/
theorem test_testpYB :
    regs (.testpYB 7 0) (st 0x0 0x5 0x5 false false false [(0x07, 0x1)]) =
      some (0x0, 0x5, 0x5, [false, false, true], 0x102) := by decide

/-- R241, example: the serial status bit SIOF to SF. -/
theorem test_testpPB : (aft (.testpPB 0xE 3) (sioSt 0xA true false false)).map (fun t => t.sf) = some true := by
  simp only [aft, exec, execTestpPB, portTest, portIn, statusInput, takeFree]
  generalize Config.freeNibble _ = f
  revert f
  decide

/-- R242, R247. -/
theorem test_setGF_clrGF :
    (aft .setGF (st 0 0 0 false false false [])).map (fun t => (t.gf, t.sf)) = some (true, true) ∧
      (aft .clrGF { st 0 0 0 false false false [] with gf := true }).map (fun t => (t.gf, t.sf)) =
        some (false, true) := by decide

/-- R243, example. -/
theorem test_setHLB :
    word (.setHLB 3) (st 0x0 0x0 0x1 false false false [(0x01, 0x1)]) 0x01 =
      some (false, true, 0x9) := by decide

/-- R244, example. -/
theorem test_setYB :
    word (.setYB 0xF 2) (st 0x0 0x5 0x5 false false false []) 0x0F =
      some (false, true, 0x4) := by decide

/-- R245, example: the latch of R8. -/
theorem test_setPB :
    (aft (.setPB 8 2) { State.reset with ports := { State.reset.ports with r8 := 0 } }).map (fun t => t.ports.r8) =
      some 4 := by decide

/-- R245: bit 3 of port 9 does not exist. -/
theorem test_setPB_port9 :
    (aft (.setPB 9 3) { State.reset with ports := { State.reset.ports with r9 := 0b010 } }).map (fun t => t.ports.r9) =
      some 0b010 := by decide

/-- R246, example: LR = D sets the latch bit R71. -/
theorem test_setL :
    (aft .setL { st 0 0 0xD false false true [] with ports := { State.reset.ports with r7 := 0 } }).map
      (fun t => t.ports.r7) = some 2 := by decide

/-- R248, example. -/
theorem test_clrHLB :
    word (.clrHLB 1) (st 0x0 0x0 0x1 false false false [(0x01, 0xF)]) 0x01 =
      some (false, true, 0xD) := by decide

/-- R249, example. -/
theorem test_clrYB :
    word (.clrYB 3 1) (st 0x0 0x5 0x5 false false false [(0x03, 0x6)]) 0x03 =
      some (false, true, 0x4) := by decide

/-- R250, example: the latch of P1. -/
theorem test_clrPB : (aft (.clrPB 1 1) State.reset).map (fun t => t.ports.p1) = some 0xD := by decide

/-- R251, example: LR = 0 clears the latch bit R40. -/
theorem test_clrL : (aft .clrL State.reset).map (fun t => t.ports.r4) = some 0xE := by decide

/-- R252, example. -/
theorem test_clrIL :
    (aft (.clrIL 0b011111) { State.reset with intl := 0b101010 }).map (fun t => (t.intl, t.eif)) =
      some (0b001010, false) := by decide

/-- R253, example. -/
theorem test_eiclrIL :
    (aft (.eiclrIL 0b111111) { State.reset with intl := 0b000010 }).map (fun t => (t.intl, t.eif)) =
      some (0b000010, true) := by decide

/-- R254, example. -/
theorem test_diclrIL :
    (aft (.diclrIL 0b111111) { State.reset with eif := true, intl := 0b000010 }).map (fun t => (t.intl, t.eif)) =
      some (0b000010, false) := by decide

/-! One step, the input/output instructions (45_io.md) -/

/-- R266, example: K0 = 0000. -/
theorem test_inPA :
    (aft (.inPA 0) { State.reset with env := { Env.allHigh with k0 := 0 }, ac := 5 }).map
      (fun t => (t.ac, t.zf, t.sf)) = some (0, true, false) := by decide

/-- R266, corner case: port 9 returns bit 3 = 1, a latch at 0 reads 0. -/
theorem test_inPA_port9 :
    (aft (.inPA 9) { State.reset with ports := { State.reset.ports with r9 := 0b110 } }).map (fun t => t.ac) =
      some 0b1110 := by decide

/-- R267, example: R4 pins = 1001, ZF unchanged. -/
theorem test_inPHL :
    word (.inPHL 4) { st 0 3 3 false true false [] with env := { Env.allHigh with r4 := 0b1001 } } 0x33 =
      some (true, true, 9) := by decide

/-- R378: the read of the serial buffer frees it and resets the request, in transmit mode too (log 33). -/
theorem test_inPHL_serial_buffer :
    (aft (.inPHL 0xF) { sioSt 0xA true true false with sio := { (sioSt 0xA true true false).sio with sb := 6, req := true } }).map
      (fun t => (memRead t 0x00, t.sio.sbFull, t.sio.req, t.sio.siof)) = some (6, false, false, true) := by decide

/-- R268, example: CMD19. -/
theorem test_outAP : (aft (.outAP 0x19) (st 6 0 0 false false false [])).map (fun t => t.cmds.cmd19) = some 6 := by decide

/-- R269, with a command that R371 allows: 1010 to CMD1F sets SIOF. -/
theorem test_outHLP :
    (aft (.outHLP 0x1F) (st 0 0 1 false false false [(1, 0xA)])).map (fun t => (t.cmds.cmd1F, t.sio.siof)) =
      some (0xA, true) := by decide

/-- R270, example: the latch of R8. -/
theorem test_outKP :
    (aft (.outKP 0xF 8) { State.reset with ports := { State.reset.ports with r8 := 0 } }).map (fun t => t.ports.r8) =
      some 0xF := by decide

/-- R271, example: CF = 1, RAM[HL] = 3, ROM[FF3] = 5A. -/
theorem test_outbHL :
    (aft .outbHL { st 0 0 1 true false false [(1, 3)] with rom := [(0xFF3, 0x5A)] }).map
      (fun t => (t.ports.p2, t.ports.p1)) = some (5, 0xA) := by decide

/-- R72, R271: the source's example on TMP4720P, where the byte comes from 7F3. -/
theorem test_outbHL_4720 :
    (aft .outbHL { st 0 0 1 true false false [(1, 3)] with part := .tmp4720p, rom := [(0x7F3, 0x5A)] }).map
      (fun t => (t.ports.p2, t.ports.p1)) = some (5, 0xA) := by decide

/-- R82, R83: a port the column does not mark, OP11. -/
theorem test_port_refusals :
    stop (.inPA 3) State.reset = some (.portNotAllowed 0x03) ∧ stop (.outAP 0x11) State.reset = some .op11ByOut := by
  decide

/-! One step, the branch, subroutine and other instructions (46_branch_other.md) -/

/-- R287, example at 010. -/
theorem test_bs :
    (aft (.bs 0xF00) { State.reset with pc := 0x010 }).map (fun t => (t.pc, t.sf)) = some (0xF00, true) ∧
      (aft (.bs 0xF00) { State.reset with pc := 0x010, sf := false }).map (fun t => (t.pc, t.sf)) =
        some (0x012, true) := by decide

/-- R288, examples: at the last byte of a page and inside it. -/
theorem test_bss :
    (aft (.bss 5) { State.reset with pc := 0x07F }).map (fun t => t.pc) = some 0x085 ∧
      (aft (.bss 5) { State.reset with pc := 0x040 }).map (fun t => t.pc) = some 0x045 ∧
      (aft (.bss 5) { State.reset with pc := 0xFFF }).map (fun t => t.pc) = some 0x005 := by decide

/-- R289, example. -/
theorem test_call :
    (aft (.call 0x345) (st 0 0 0 false false false [(0xFF, 0xC)])).map
      (fun t => (t.pc, [memRead t 0xF0, memRead t 0xF1, memRead t 0xF2, spw t], t.sf)) =
        some (0x345, [2, 0, 1, 0xB], false) := by
  simp only [aft, exec, execCall, callTo, takeFree]
  generalize Config.freeNibble _ = f
  revert f
  decide

/-- R290, example. -/
theorem test_calls :
    (aft (.calls 3) { st 0 0 0 false false false [(0xFF, 0xE)] with pc := 0x200 }).map
      (fun t => (t.pc, [memRead t 0xF8, memRead t 0xF9, memRead t 0xFA, spw t])) =
        some (0x01E, [1, 0, 2, 0xD]) := by
  simp only [aft, exec, execCalls, callTo, takeFree]
  generalize Config.freeNibble _ = f
  revert f
  decide

/-- R290: n = 0. -/
theorem test_calls_zero :
    (aft (.calls 0) (st 0 0 0 false false false [])).map (fun t => t.pc) = some 0x086 := by decide

/-- The stack of the examples of R291 and R292. -/
def stackSt : State :=
  st 0 0 0 false true false [(0xF0, 2), (0xF2, 1), (0xF3, 0xA), (0xFF, 0xB)]

/-- R291, example. -/
theorem test_ret :
    (aft .ret stackSt).map (fun t => (t.pc, spw t, [t.cf, t.zf, t.sf])) = some (0x102, 0xC, [false, true, false]) := by
  decide

/-- R292, example. -/
theorem test_reti :
    (aft .reti stackSt).map (fun t => (t.pc, spw t, [t.cf, t.zf, t.sf, t.gf, t.eif])) =
      some (0x102, 0xC, [true, false, true, false, true]) := by decide

/-- R293: SF stays, PC wraps (R24). -/
theorem test_nop :
    (aft .nop { State.reset with pc := 0xFFF, sf := false }).map (fun t => (t.pc, t.sf)) = some (0x000, false) := by
  decide

/-! The step: an interrupt accepted after the instruction (R315, vectors of 95_test_vectors.md part 2) -/

/-- R309-R311: INT1 latched and enabled, a NOP at 100: acceptance, PC = 002, SF = 1, EIF = 0, the latch reset. -/
theorem test_accept :
    (match step { st 0 0 0 true false false [(0xFF, 0xC)] with eif := true, intl := 0b100000 } with
      | .next t => some (t.pc, t.sf, t.eif, t.intl, [memRead t 0xF0, memRead t 0xF2, memRead t 0xF3, spw t])
      | _ => none) = some (0x002, true, false, 0, [1, 1, 0b1000, 0xB]) := by decide

/-- R366, R367: a count operation takes FFF to 000 and latches IOVF1. -/
theorem test_count_overflow :
    (match step { st 0 0 0 false false true [(0xF4, 0xF), (0xF5, 0xF), (0xF6, 0xF)] with cntl1 := true } with
      | .next t => some (t.ram, t.intl, t.cntl1, t.divider)
      | _ => none) = some ([], 0b001000, false, 2) := by decide

/-- R401, R404: a RESET inside `ST A, @HL`: PC = 000, the word it was writing is open, the next one is kept. -/
theorem test_reset_in_step (s : State)
    (hs : s = { st 3 0 0 false false true [(0, 5), (1, 7)] with
      rom := [(0x100, 0x0F)], env := { Env.allHigh with event := .resetInStep } }) :
    (∃ t, step s = .next t ∧ t.pc = 0x000) ∧ stepWords .stAHL s s = [0x00] ∧ memRead (freeWords [0x00] s) 0x01 = 7 := by
  subst hs
  refine ⟨⟨_, rfl, rfl⟩, by decide, ?_⟩
  simp only [freeWords, takeFree]
  generalize Config.freeNibble _ = f
  revert f
  decide

/-- R402: `State.reset` is what the initialization operation leaves of itself. -/
theorem test_reset_is_initialized : initialized State.reset [] 0 0 0 0 0 0 false = State.reset := by decide

/-! Witnesses: for every statement with hypotheses, a state and operands that meet them, at the boundary values -/

/-- DC = 000 and DC = FFF for `RomTableLoadResults`. -/
theorem witness_RomTableLoadResults :
    (0x000 : RomAddr) = memRead State.reset 0xFE ++ memRead State.reset 0xFD ++ memRead State.reset 0xFC ∧
      ∃ s, (0xFFF : RomAddr) = memRead s 0xFE ++ memRead s 0xFD ++ memRead s 0xFC :=
  ⟨by decide, st 0 0 0 false false true [(0xFC, 0xF), (0xFD, 0xF), (0xFE, 0xF)], by decide⟩

/-- The least and the greatest sum of `AddRegisterResults`, with and without carry in. -/
theorem witness_AddRegisterResults :
    (0 = (st 0 0 1 false false true []).ac.toNat + (memRead (st 0 0 1 false false true []) 0x01).toNat +
        (st 0 0 1 false false true []).cf.toNat) ∧
      (31 = (st 0xF 0 1 true false true [(1, 0xF)]).ac.toNat +
        (memRead (st 0xF 0 1 true false true [(1, 0xF)]) 0x01).toNat +
        (st 0xF 0 1 true false true [(1, 0xF)]).cf.toNat) := by decide

/-- The boundary sums and differences of `ArithmeticMemoryResults`. -/
theorem witness_ArithmeticMemoryResults :
    (1 = (memRead State.reset 0x00).toNat + 1) ∧ (16 = (memRead (st 0 0 0 false false true [(0, 0xF)]) 0x00).toNat + 1) ∧
      (30 = (memRead (st 0 0 0 false false true [(0, 0xF)]) 0x00).toNat + (0xF : Nibble).toNat) ∧
      ((-1 : Int) = (memRead State.reset 0x00).toNat - 1) ∧
      ((-15 : Int) = (0x0 : Nibble).toNat - (memRead (st 0 0 0 false false true [(0, 0xF)]) 0x00).toNat) := by decide

/-- The boundary differences of `SubtractRegisterResults`. -/
theorem witness_SubtractRegisterResults :
    ((-16 : Int) = (memRead (st 0xF 0 0 false false true []) 0x00).toNat -
        (st 0xF 0 0 false false true []).ac.toNat - (!(st 0xF 0 0 false false true []).cf).toNat) ∧
      ((15 : Int) = (memRead (st 0 0 0 true false true [(0, 0xF)]) 0x00).toNat -
        (st 0 0 0 true false true [(0, 0xF)]).ac.toNat - (!(st 0 0 0 true false true [(0, 0xF)]).cf).toNat) ∧
      ((-15 : Int) = (0x0 : Nibble).toNat - (st 0xF 0 0 false false true []).ac.toNat) := by decide

/-- A zero and a nonzero result for `LogicResults`. -/
theorem witness_LogicResults :
    (0 : Nibble) = (st 5 0 1 false false true [(1, 0xA)]).ac &&& memRead (st 5 0 1 false false true [(1, 0xA)]) 0x01 ∧
      (0xF : Nibble) = (st 5 0 1 false false true [(1, 0xA)]).ac ||| memRead (st 5 0 1 false false true [(1, 0xA)]) 0x01 := by
  decide

/-- The first and the last port of `PortBitTestResults` and `InputResults`, and of `PortBitChangeResults` and
`OutputLatchResults`. -/
theorem witness_ports :
    0x0#4 ∈ [0x0#4, 0x1#4, 0x2#4, 0x4#4, 0x5#4, 0x6#4, 0x7#4, 0x8#4, 0x9#4, 0xE#4] ∧
      0xE#4 ∈ [0x0#4, 0x1#4, 0x2#4, 0x4#4, 0x5#4, 0x6#4, 0x7#4, 0x8#4, 0x9#4, 0xE#4] ∧
      0xF#4 ∈ [0x0#4, 0x1#4, 0x2#4, 0x4#4, 0x5#4, 0x6#4, 0x7#4, 0x8#4, 0x9#4, 0xE#4, 0xF#4] ∧
      0x1#4 ∈ [0x1#4, 0x2#4, 0x4#4, 0x5#4, 0x6#4, 0x7#4, 0x8#4, 0x9#4] ∧
      0x9#4 ∈ [0x1#4, 0x2#4, 0x4#4, 0x5#4, 0x6#4, 0x7#4, 0x8#4, 0x9#4] := by decide

/-- The lowest and the highest port L selects, for `SelectedPinChangeResults`. -/
theorem witness_SelectedPinChangeResults :
    (0x4 : Nibble) = 0b01#2 ++ (st 0 0 0x0 false false true []).lr.extractLsb' 2 2 ∧
      (0x7 : Nibble) = 0b01#2 ++ (st 0 0 0xF false false true []).lr.extractLsb' 2 2 := by decide

/-- The three forms of `OutputSerialBufferResults`. -/
theorem witness_OutputSerialBufferResults :
    (∃ s i, i = Instr.outAP 0x0F ∧ s.ac = 0xF ∧ transmitSelected s = true) ∧
      (∃ s i, i = Instr.outHLP 0x0F ∧ memRead s (s.hr ++ s.lr) = 0x0 ∧ transmitSelected s = false) ∧
      (∃ (i : Instr) (v : Nibble), i = .outKP v 0xF) :=
  ⟨⟨{ sioSt 0xA true false false with ac := 0xF }, _, rfl, by decide, by decide⟩,
    ⟨State.reset, _, rfl, by decide, by decide⟩, ⟨_, 0x0, rfl⟩⟩

/-- The first clause of `OutputSerialCommandResults` (`p` is what its equation says): no mode bit changes on a busy port;
the mode changes on an idle one. -/
theorem witness_OutputSerialCommandResults_plain :
    (∃ (s : State) (v : Nibble) (i : Instr), i = .outAP 0x1F ∧ v = s.ac ∧ ¬(v.getLsbD 3 = true ∧ v.extractLsb' 1 2 = 0b00#2) ∧
      v.extractLsb' 0 3 = s.cmds.cmd1F.extractLsb' 0 3 ∧ s.sio.siof = true) ∧
      (∃ (s : State) (v : Nibble) (i : Instr), i = .outHLP 0x1F ∧ v = memRead s (s.hr ++ s.lr) ∧
        ¬(v.getLsbD 3 = true ∧ v.extractLsb' 1 2 = 0b00#2) ∧
        v.extractLsb' 0 3 ≠ s.cmds.cmd1F.extractLsb' 0 3 ∧
        s.sio.siof = false ∧ s.sio.sbFull = false ∧ s.sio.srFull = false) :=
  ⟨⟨{ sioSt 0xA true false false with ac := 0x2 }, _, _, rfl, rfl, by decide, by decide, by decide⟩,
    ⟨{ State.reset with ram := [(0, 0xA)] }, _, _, rfl, rfl, by decide, by decide, by decide, by decide, by decide⟩⟩

/-- The second clause of `OutputSerialCommandResults`: the mode changes on a port that is busy in each of the three ways. -/
theorem witness_OutputSerialCommandResults_lost :
    ∀ s ∈ [sioSt 0xA true false false, sioSt 0x2 false true false, sioSt 0x2 false false true],
      ¬((0xD : Nibble).getLsbD 3 = true ∧ (0xD : Nibble).extractLsb' 1 2 = 0b00#2) ∧
        (0xD : Nibble).extractLsb' 0 3 ≠ s.cmds.cmd1F.extractLsb' 0 3 ∧
        (s.sio.siof = true ∨ s.sio.sbFull = true ∨ s.sio.srFull = true) := by decide

/-- The first and the last table address of `OutputTableResults`. -/
theorem witness_OutputTableResults :
    (0xFE0 : RomAddr).toNat = 0xFE0 + 16 * State.reset.cf.toNat + (memRead State.reset 0x00).toNat ∧
      (0xFFF : RomAddr).toNat = 0xFE0 + 16 * (st 0 0 0 true false true [(0, 0xF)]).cf.toNat +
        (memRead (st 0 0 0 true false true [(0, 0xF)]) 0x00).toNat := by decide

/-- `CALL` at the highest level a call may use and `CALLS` at the lowest, n = 0 and n = F, for `CallResults`. -/
theorem witness_CallResults :
    (∃ (s : State) (i : Instr) (n target : RomAddr), spw s = 0xE ∧ spw s ≠ 0xF ∧
      ∃ a, i = .call a ∧ n = s.pc + 2 ∧ target.toNat = a.toNat) ∧
      (∃ (s : State) (i : Instr) (n target : RomAddr), spw s = 0x0 ∧ spw s ≠ 0xF ∧
        ∃ k : BitVec 4, i = .calls k ∧ n = s.pc + 1 ∧ target.toNat = if k = 0 then 0x086 else 8 * k.toNat + 6) ∧
      ((0x07E : RomAddr).toNat = if (0xF : Nibble) = 0 then 0x086 else 8 * (0xF : Nibble).toNat + 6) :=
  ⟨⟨st 0 0 0 false false true [(0xFF, 0xE)], _, _, 0x7FF, by decide, by decide, 0x7FF, rfl, rfl, by decide⟩,
    ⟨State.reset, _, _, 0x086, by decide, by decide, 0x0, rfl, rfl, by decide⟩, by decide⟩

/-- SPW = D and SPW = F, from which a return reads the levels E and 0, for `ReturnResults`. -/
theorem witness_ReturnResults :
    (spw (st 0 0 0 false false true [(0xFF, 0xD)]) ≠ 0xE ∧
      (0xF8 : RamAddr) = stackAddr (spw (st 0 0 0 false false true [(0xFF, 0xD)]) + 1)) ∧
      (spw (st 0 0 0 false false true [(0xFF, 0xF)]) ≠ 0xE ∧
        (0xC0 : RamAddr) = stackAddr (spw (st 0 0 0 false false true [(0xFF, 0xF)]) + 1)) := by decide

/-- A call that has a next state, of each kind, for `ReturnUndoesCall`. -/
theorem witness_ReturnUndoesCall :
    (∃ t i, (∃ a, i = Instr.call a) ∧ exec i State.reset = .next t) ∧
      (∃ t i, (∃ k, i = Instr.calls k) ∧ exec i State.reset = .next t) :=
  ⟨⟨_, _, ⟨0x345, rfl⟩, rfl⟩, ⟨_, _, ⟨0xF, rfl⟩, rfl⟩⟩

/-- SPW = F and SPW = E for `StackLevelFStops`. -/
theorem witness_StackLevelFStops :
    spw (st 0 0 0 false false true [(0xFF, 0xF)]) = 0xF ∧ spw (st 0 0 0 false false true [(0xFF, 0xE)]) = 0xE := by
  decide

/-- The boundary ports of the clauses of `PortStops`, none in two lists with different stops, and both serial commands. -/
theorem witness_PortStops :
    0x3#4 ∈ [0x3#4, 0xA#4, 0xB#4, 0xC#4, 0xD#4] ∧ 0xF#4 ∈ [0x3#4, 0xA#4, 0xB#4, 0xC#4, 0xD#4, 0xF#4] ∧
      0x0#4 ∈ [0x0#4, 0x3#4, 0xA#4, 0xB#4, 0xC#4, 0xD#4, 0xE#4, 0xF#4] ∧
      0xE#4 ∈ [0x0#4, 0x3#4, 0xA#4, 0xB#4, 0xC#4, 0xD#4, 0xE#4] ∧
      (∀ p ∈ [0x00#5, 0x03#5, 0x0A#5, 0x0B#5, 0x0C#5, 0x0D#5, 0x0E#5, 0x10#5, 0x12#5, 0x13#5, 0x14#5, 0x15#5, 0x16#5,
        0x17#5, 0x18#5, 0x1A#5, 0x1B#5, 0x1E#5], p ≠ 0x11 ∧ p ≠ 0x1F) ∧
      ((st 8 0 0 false false true []).ac = 0x8 ∧ (st 9 0 0 false false true []).ac = 0x9) ∧
      (memRead (st 0 0 0 false false true [(0, 8)]) 0x00 = 0x8 ∧
        memRead (st 0 0 0 false false true [(0, 9)]) 0x00 = 0x9) := by decide

/-- Instructions and states that meet each hypothesis of `OtherwiseExecCompletes` where it says something: a call at level
E, a return from level 0, outputs of 7 and A to port 1F. -/
theorem witness_OtherwiseExecCompletes :
    ((Instr.call 0x7FF).wellFormed = true ∧ spw (st 0 0 0 false false true [(0xFF, 0xE)]) ≠ 0xF) ∧
      (Instr.reti.wellFormed = true ∧ spw (st 0 0 0 false false true [(0xFF, 0xF)]) ≠ 0xE) ∧
      ((Instr.outAP 0x1F).wellFormed = true ∧ (st 7 0 0 false false true []).ac ≠ 0x8 ∧
        (st 7 0 0 false false true []).ac ≠ 0x9) ∧
      ((Instr.outHLP 0x1F).wellFormed = true ∧ memRead (st 0 0 0 false false true [(0, 0xA)]) 0x00 ≠ 0x8 ∧
        memRead (st 0 0 0 false false true [(0, 0xA)]) 0x00 ≠ 0x9) := by decide

/-- Bytes that decode, one-byte and two-byte, for `EncodeDecodeRoundTrip` and `FirstByteGivesLength`. -/
theorem witness_decode :
    decode [0x00] = .ok (.nop, []) ∧ decode [0x6F, 0x00, 0x2A] = .ok (.bs 0xF00, [0x2A]) := ⟨rfl, rfl⟩

/-- Instructions that write GF and CF and have a next state, for `FlagWriters`. -/
theorem witness_FlagWriters :
    (∃ t, exec .setGF State.reset = .next t ∧ t.gf ≠ State.reset.gf) ∧
      (∃ t, exec .testpCF State.reset = .next t ∧ t.cf ≠ State.reset.cf) :=
  ⟨⟨_, rfl, by decide⟩, ⟨_, rfl, by decide⟩⟩

/-- Instructions that write EIF, EIR and a latch and have a next state, for `InterruptControlWriters`. -/
theorem witness_InterruptControlWriters :
    (∃ t, exec (.eiclrIL 0) { State.reset with intl := 0b111111 } = .next t ∧ t.eif = true ∧ t.intl.getLsbD 5 = false) ∧
      (∃ t, exec .xchAEIR { State.reset with ac := 0xF } = .next t ∧ t.eir = 0xF ∧ t.eif = false) :=
  ⟨⟨_, rfl, by decide, by decide⟩, ⟨_, rfl, by decide, by decide⟩⟩

/-- An instruction at the last address, whose PC wraps, for `SequentialProgramCounter`. -/
theorem witness_SequentialProgramCounter :
    ∃ t, exec (.ldAX 0xFF) { State.reset with pc := 0xFFE } = .next t ∧ t.pc = 0x000 :=
  ⟨_, rfl, by decide⟩

/-- Instructions that change a latch, a command register and the serial port, for `PortAccessIsByPortInstructions`. -/
theorem witness_PortAccessIsByPortInstructions :
    (∃ t, exec (.outKP 0 1) State.reset = .next t ∧ t.ports ≠ State.reset.ports) ∧
      (∃ t, exec (.outAP 0x19) { State.reset with ac := 4 } = .next t ∧ t.cmds ≠ State.reset.cmds) ∧
      (∃ t, exec (.outAP 0x1F) { State.reset with ac := 0xA } = .next t ∧ t.sio ≠ State.reset.sio) :=
  ⟨⟨_, rfl, by decide⟩, ⟨_, rfl, by decide⟩, ⟨_, rfl, by decide⟩⟩

/-- A store and a load that both have a next state, at the same word and at another, for `StoreThenLoad`. -/
theorem witness_StoreThenLoad :
    ∃ t u v, exec (.stAX 0xFF) { State.reset with ac := 5 } = .next t ∧ exec (.ldAX 0xFF) t = .next u ∧ u.ac = 5 ∧
      exec (.ldAX 0x00) t = .next v ∧ v.ac = 0 :=
  ⟨_, _, _, rfl, rfl, by decide, rfl, by decide⟩

/-- Both parts, for `AddressAliasing`. -/
theorem witness_AddressAliasing :
    { State.reset with part := .tmp4720p }.part = Part.tmp4720p ∧ State.reset.part = Part.tmp4740p := by decide

/-- The highest and the lowest level an acceptance may use, for `AcceptanceResult` and `RetiUndoesAcceptance`. -/
theorem witness_AcceptanceResult :
    (spw (st 0 0 0 false false true [(0xFF, 0xE)]) ≠ 0xF ∧
      (0xF8 : RamAddr) = stackAddr (spw (st 0 0 0 false false true [(0xFF, 0xE)]))) ∧
      (spw State.reset ≠ 0xF ∧ (0xC0 : RamAddr) = stackAddr (spw State.reset)) := by decide

/-- A cleared divider with the timer interrupt enabled, in the cycle of the first request, and the lowest and the highest
stage CMD19 selects, at its rise, for `DividerInterruptTime`. -/
theorem witness_DividerInterruptTime :
    (6 = 6 + ((0x4 : Nibble).extractLsb' 0 2).toNat ∧ (0x3F : BitVec 19).getLsbD 6 = false ∧
      ((0x3F : BitVec 19) + 1).getLsbD 6 = true) ∧
    (9 = 6 + ((0x7 : Nibble).extractLsb' 0 2).toNat ∧ (0x1FF : BitVec 19).getLsbD 9 = false ∧
      ((0x1FF : BitVec 19) + 1).getLsbD 9 = true) ∧
    { State.reset with cmds := { State.reset.cmds with cmd19 := 0x4 } }.divider = 0 ∧
      64 * 2 ^ ((0x4 : Nibble).extractLsb' 0 2).toNat ≤ 64 := by decide

/-- The values `CountPulseResults` names, for the lowest and the highest stage of the divider. -/
theorem witness_CountPulseResults :
    (6 = 6 + 4 * (State.reset.cmds.cmd1C.extractLsb' 0 2).toNat ∧
      true = (State.reset.ports.r8.getLsbD 3 && State.reset.env.r8.getLsbD 3) ∧ false = State.reset.divider.getLsbD 6 ∧
      false = (State.reset.divider + 1).getLsbD 6) ∧
      (18 = 6 + 4 * ((0xB : Nibble).extractLsb' 0 2).toNat ∧
        true = (State.reset.ports.r8.getLsbD 1 && State.reset.env.r8.getLsbD 1) ∧
        false = (0x3FFFF : BitVec 19).getLsbD 18 ∧ true = ((0x3FFFF : BitVec 19) + 1).getLsbD 18) := by decide

/-- The counters 000 and FFF, for `CountOperationResult`. -/
theorem witness_CountOperationResult :
    0x000 = (memRead State.reset 0xF6 ++ memRead State.reset 0xF5 ++ memRead State.reset 0xF4).toNat ∧
      ∃ s, 0xFFF = (memRead s 0xFA ++ memRead s 0xF9 ++ memRead s 0xF8).toNat :=
  ⟨by decide, st 0 0 0 false false true [(0xF8, 0xF), (0xF9, 0xF), (0xFA, 0xF)], by decide⟩

/-- `sioSt` at bit `nb` of a word. -/
def bitSt (cmd nb : Nibble) (sbFull srFull : Bool) : State :=
  { sioSt cmd true sbFull srFull with
    sio := { (sioSt cmd true sbFull srFull).sio with nb := nb.extractLsb' 0 2, sef := true } }

/-- The clauses of `SerialLowBitFirst` about one edge, in their order: ESIO = 0 at a boundary; an empty buffer with either
clock; a full one; a bit inside a word, with ESIO = 0; SR full with either clock; the bits 0, 2 and 3 of a received word, the
last with a full and with a free buffer. -/
theorem witness_SerialLowBitFirst_edges :
    ((bitSt 0x2 0 true false).sio.nb = 0 ∧ (bitSt 0x2 0 true false).cmds.cmd1F.getLsbD 3 = false) ∧
      (∀ s ∈ [bitSt 0xA 0 false false, bitSt 0xB 0 false false],
        s.sio.nb = 0 ∧ s.cmds.cmd1F.getLsbD 3 = true ∧ s.sio.sbFull = false) ∧
      ((bitSt 0xA 0 true false).sio.nb = 0 ∧ (bitSt 0xA 0 true false).cmds.cmd1F.getLsbD 3 = true ∧
        (bitSt 0xA 0 true false).sio.sbFull = true) ∧
      (∀ s ∈ [bitSt 0x2 1 false false, bitSt 0x2 3 false false], s.sio.nb ≠ 0 ∧ s.cmds.cmd1F.getLsbD 3 = false) ∧
      (∀ s ∈ [bitSt 0xC 0 true true, bitSt 0xD 0 true true],
        (s.sio.nb ≠ 0 ∨ s.cmds.cmd1F.getLsbD 3 = true) ∧ s.sio.srFull = true) ∧
      (∀ s ∈ [bitSt 0xC 0 false false, bitSt 0x4 2 false false, bitSt 0x4 3 true false, bitSt 0x4 3 false false],
        (s.sio.nb ≠ 0 ∨ s.cmds.cmd1F.getLsbD 3 = true) ∧ s.sio.srFull = false) ∧
      (0x8 : Nibble) = BitVec.ofBool true ++ (bitSt 0xC 0 false false).sio.sr.extractLsb' 1 3 := by decide

/-- A full buffer at a word boundary, and an empty port with a free and with a full buffer, for the whole words of
`SerialLowBitFirst`. -/
theorem witness_SerialLowBitFirst :
    ((sioSt 0xA true true false).sio.nb = 0 ∧ (sioSt 0xA true true false).sio.sbFull = true ∧
      (sioSt 0xA true true false).cmds.cmd1F.getLsbD 3 = true ∧ (sioSt 0xA true true false).sio.req = false) ∧
      ((sioSt 0xC true false false).sio.nb = 0 ∧ (sioSt 0xC true false false).sio.srFull = false ∧
        (sioSt 0xC true false false).cmds.cmd1F.getLsbD 3 = true ∧ (sioSt 0xC true false false).sio.sbFull = false) ∧
      ((sioSt 0xC true true false).sio.nb = 0 ∧ (sioSt 0xC true true false).sio.srFull = false ∧
        (sioSt 0xC true true false).sio.sbFull = true) ∧
      (0b1010 : Nibble) = BitVec.ofBool true ++ BitVec.ofBool false ++ BitVec.ofBool true ++ BitVec.ofBool false := by
  decide

/-- The clauses of `SerialShiftOfACycle` (`q` and `sck` are what their equations say): the two edges of the internal clock,
one of the external clock that shifts, one that shifts nothing, and one whose shift breaks the protocol (U8). -/
theorem witness_SerialShiftOfACycle :
    (∃ s, s = { sioSt 0xA true true false with divider := 0xF } ∧ shiftLeads s = true ∧ (shifted s).unspec = false ∧
      (shifted s).sef = true) ∧
      (∃ s, s = { sioSt 0xC true false false with divider := 0x7 } ∧ shiftTrails s = true ∧ (shifted s).unspec = false ∧
        (shifted s).sef = true) ∧
      (∃ s, s = { sioSt 0xB true true false with env := { Env.allHigh with r9 := 0b011 } } ∧ shiftLeads s = true ∧
        (shifted s).unspec = false ∧ (shifted s).sef = true) ∧
      ((shifted (sioSt 0xB true true false)).unspec = false ∧ (shifted (sioSt 0xB true true false)).sef = false) ∧
      (∃ s, s = { sioSt 0xB true false false with env := { Env.allHigh with r9 := 0b011 } } ∧ shiftLeads s = true ∧
        (shifted s).unspec = true) :=
  ⟨⟨_, rfl, by decide, by decide, by decide⟩, ⟨_, rfl, by decide, by decide, by decide⟩,
    ⟨_, rfl, by decide, by decide, by decide⟩, ⟨by decide, by decide⟩, ⟨_, rfl, by decide, by decide⟩⟩

/-- An internal shift clock that waits, for `WaitHoldsTheSerialPort`. -/
theorem witness_WaitHoldsTheSerialPort :
    ∃ s : State, s.sio.waiting = true ∧ s.cmds.cmd1F.getLsbD 0 = false ∧ s.sio.unspec = false :=
  ⟨{ sioSt 0xA true false false with sio := { (sioSt 0xA true false false).sio with waiting := true } },
    by decide, by decide, by decide⟩

/-- For `StepRunsDecodedInstruction`: an instruction and no pending factor; a pending one at level C and at level F; an
instruction that is refused; a reserved encoding. -/
theorem witness_StepRunsDecodedInstruction :
    (∃ i rest t, State.reset.env.event = .run ∧
      decode [romRead State.reset State.reset.pc, romRead State.reset (State.reset.pc + 1)] = .ok (i, rest) ∧
      exec i State.reset = .next t ∧ pendingFactor (afterInstruction (instrCycles i) t) = none) ∧
    (∃ s t, decode [romRead s s.pc, romRead s (s.pc + 1)] = .ok (.nop, [0x00]) ∧ exec .nop s = .next t ∧
      pendingFactor (afterInstruction 1 t) = some .int1 ∧ spw (afterInstruction 1 t) = 0xC) ∧
    (∃ s t, decode [romRead s s.pc, romRead s (s.pc + 1)] = .ok (.nop, [0x00]) ∧ exec .nop s = .next t ∧
      pendingFactor (afterInstruction 1 t) = some .int1 ∧ spw (afterInstruction 1 t) = 0xF) ∧
    (∃ s r, decode [romRead s s.pc, romRead s (s.pc + 1)] = .ok (.ret, [0x00]) ∧ exec .ret s = .refused r) ∧
    (∃ s e, decode [romRead s s.pc, romRead s (s.pc + 1)] = .error e) :=
  ⟨⟨.nop, [0x00], _, rfl, rfl, rfl, by decide⟩,
    ⟨{ st 0 0 0 false false true [(0xFF, 0xC)] with eif := true, intl := 0b100000 }, _, rfl, rfl, by decide, by decide⟩,
    ⟨{ st 0 0 0 false false true [(0xFF, 0xF)] with eif := true, intl := 0b100000 }, _, rfl, rfl, by decide, by decide⟩,
    ⟨{ st 0 0 0 false false true [(0xFF, 0xE)] with rom := [(0x100, 0x2A)] }, _, rfl, rfl⟩,
    ⟨{ st 0 0 0 false false true [] with rom := [(0x100, 0x1C)] }, _, rfl⟩⟩

/-- A released RESET on a chip with code AA and on one with code AI, and a power-up, for `ResetOperation`. -/
theorem witness_ResetOperation :
    { State.reset with env := { Env.allHigh with event := .reset } }.env.event = .reset ∧
      State.reset.ioCode = .aa ∧
      { State.reset with ioCode := .ai, env := { Env.allHigh with event := .reset } }.ioCode = .ai ∧
      { State.reset with env := { Env.allHigh with event := .powerUp } }.env.event = .powerUp := by decide

/-- For `ResetInsideAStep`: a step that runs and writes a word (INC @HL, and a count operation after it), and the events:
inside it, inside an acceptance at level E, inside one at level F, inside a refused instruction and a reserved encoding. -/
theorem witness_ResetInsideAStep :
    (∃ s u t, s.env.event = .run ∧ fetch s = .ok .incHL ∧ exec .incHL s = .next u ∧ step s = .next t ∧
      stepWords .incHL s u = [0x00, 0xF4, 0xF5, 0xF6]) ∧
    (∃ s u, s.env.event = .resetInStep ∧ fetch s = .ok .nop ∧ exec .nop s = .next u ∧
      spw (afterInstruction 1 u) = 0xE ∧ stepWords .nop s u = [0xF8, 0xF9, 0xFA, 0xFB, 0xFF]) ∧
    (∃ s u, s.env.event = .resetInStep ∧ fetch s = .ok .nop ∧ exec .nop s = .next u ∧
      pendingFactor (afterInstruction 1 u) = some .int1 ∧ spw (afterInstruction 1 u) = 0xF) ∧
    (∃ s r, s.env.event = .resetInStep ∧ fetch s = .ok .ret ∧ exec .ret s = .refused r) ∧
    (∃ s e, s.env.event = .resetInStep ∧ fetch s = .error e) :=
  ⟨⟨{ st 0 0 0 false false true [] with rom := [(0x100, 0x0A)], cntl1 := true }, _, _, rfl, rfl, rfl, rfl, by decide⟩,
    ⟨{ st 0 0 0 false false true [(0xFF, 0xE)] with
        eif := true, intl := 0b100000, env := { Env.allHigh with event := .resetInStep } }, _, rfl, rfl, rfl, by decide,
      by decide⟩,
    ⟨{ st 0 0 0 false false true [(0xFF, 0xF)] with
        eif := true, intl := 0b100000, env := { Env.allHigh with event := .resetInStep } }, _, rfl, rfl, rfl, by decide,
      by decide⟩,
    ⟨{ st 0 0 0 false false true [(0xFF, 0xE)] with
        rom := [(0x100, 0x2A)], env := { Env.allHigh with event := .resetInStep } }, _, rfl, rfl, rfl⟩,
    ⟨{ st 0 0 0 false false true [] with rom := [(0x100, 0x1C)], env := { Env.allHigh with event := .resetInStep } }, _,
      rfl, rfl⟩⟩

/-- A state with an enabled serial port that has the invariant and a next state, for `StepKeepsInvariant` and
`StepKeepsTheChip`. -/
theorem witness_StepKeepsInvariant :
    StateInv (sioSt 0xA true true false) ∧ ∃ t, step (sioSt 0xA true true false) = .next t :=
  ⟨⟨by decide, by decide, by decide, by decide⟩, ⟨_, rfl⟩⟩

end Sys2Proof.Tests
end

section
/-! The chip under a running machine: which byte and which word an address selects on each part, and that no step changes
the program memory, the part or the circuit code. -/

namespace Sys2Proof.Machine

variable {s t : State}

/-! ## Which array element an address selects (R6, R72, R76) -/

theorem romIndex_tmp4720p (h : s.part = .tmp4720p) (a : RomAddr) : romIndex s a = (a.extractLsb' 0 11).toNat := by
  simpa [romIndex, romMask, h] using Nat.and_two_pow_sub_one_eq_mod a.toNat 11

theorem romIndex_tmp4740p (h : s.part = .tmp4740p) (a : RomAddr) : romIndex s a = a.toNat := by
  have hmask : a &&& 0xFFF#12 = a := BitVec.and_allOnes
  simp only [romIndex, romMask, h, hmask]

theorem ramIndex_tmp4720p (h : s.part = .tmp4720p) (a : RamAddr) : ramIndex s a = (a.extractLsb' 0 7).toNat := by
  simpa [ramIndex, ramMask, h] using Nat.and_two_pow_sub_one_eq_mod a.toNat 7

theorem ramIndex_tmp4740p (h : s.part = .tmp4740p) (a : RamAddr) : ramIndex s a = a.toNat := by
  have hmask : a &&& 0xFF#8 = a := BitVec.and_allOnes
  simp only [ramIndex, ramMask, h, hmask]

/-- TMP4720P does not decode bit 11 of a ROM address. -/
theorem romIndex_xor_bit11 (h : s.part = .tmp4720p) (a : RomAddr) : romIndex s (a ^^^ 0x800) = romIndex s a := by
  have hlow : (0x800 : RomAddr).extractLsb' 0 11 = 0#11 := rfl
  rw [romIndex_tmp4720p h, romIndex_tmp4720p h, BitVec.extractLsb'_xor, hlow, BitVec.xor_zero]

/-- TMP4720P does not decode bit 7 of a RAM address. -/
theorem ramIndex_xor_bit7 (h : s.part = .tmp4720p) (a : RamAddr) : ramIndex s (a ^^^ 0x80) = ramIndex s a := by
  have hlow : (0x80 : RamAddr).extractLsb' 0 7 = 0#7 := rfl
  rw [ramIndex_tmp4720p h, ramIndex_tmp4720p h, BitVec.extractLsb'_xor, hlow, BitVec.xor_zero]

theorem romRead_congr {a b : RomAddr} (h : romIndex s a = romIndex s b) : romRead s a = romRead s b :=
  congrArg s.rom.read h

theorem memRead_congr {a b : RamAddr} (h : ramIndex s a = ramIndex s b) : memRead s a = memRead s b :=
  congrArg s.ram.read h

/-- A placed byte is read at every address that answers to its ROM byte, and at no other (log 8). -/
theorem romRead_placeByte (s : State) (a : RomAddr) (v : Byte) (b : RomAddr) :
    romRead (placeByte a v s) b = if romIndex s b = romIndex s a then v else romRead s b :=
  Memory.read_write s.rom (romIndex s a) (romIndex s b) v

/-- Settles O42: the array index is the number of the decoded address bits. -/
theorem addressAliasing : Obligations.AddressAliasing := by
  unfold Obligations.AddressAliasing
  refine ⟨fun s h => ⟨?_, ?_, ?_, ?_⟩, fun s h => ⟨?_, ?_⟩, romRead_placeByte, ?_⟩
  · exact fun a => romRead_congr (romIndex_xor_bit11 h a)
  · exact fun a => memRead_congr (ramIndex_xor_bit7 h a)
  · intro a b
    rw [romIndex_tmp4720p h, romIndex_tmp4720p h, BitVec.toNat_inj]
  · intro a b
    rw [ramIndex_tmp4720p h, ramIndex_tmp4720p h, BitVec.toNat_inj]
  · intro a b
    rw [romIndex_tmp4740p h, romIndex_tmp4740p h, BitVec.toNat_inj]
  · intro a b
    rw [ramIndex_tmp4740p h, ramIndex_tmp4740p h, BitVec.toNat_inj]
  · exact fun s a v b => memRead_memWrite s a b v

/-! ## How an instruction that can be refused ends -/

section Inversion

variable {r : Refusal} {u : State}

/-- An instruction refused under a condition has its next state where the condition fails. -/
theorem next_of_guard {c : Prop} [Decidable c]
    (h : (if c then .refused r else .next u : Host.Outcome State Fault Refusal) = .next t) : ¬c ∧ t = u := by
  split at h
  · cases h
  · next hc => exact ⟨hc, (Host.Outcome.next.inj h).symm⟩

/-- An instruction that reads a port has its next state where the read is not refused. -/
theorem next_of_read {x : Except Refusal (Nibble × State)} {g : Nibble → State → State}
    (h : (match x with
      | .ok (v, u) => .next (g v u)
      | .error r => .refused r : Host.Outcome State Fault Refusal) = .next t) :
    ∃ v u, x = .ok (v, u) ∧ t = g v u := by
  obtain r | ⟨v, u⟩ := x
  · cases h
  · exact ⟨v, u, rfl, (Host.Outcome.next.inj h).symm⟩

/-- An instruction that writes a port has its next state where the write is not refused. -/
theorem next_of_write {x : Except Refusal State} {g : State → State}
    (h : (match x with
      | .ok u => .next (g u)
      | .error r => .refused r : Host.Outcome State Fault Refusal) = .next t) :
    ∃ u, x = .ok u ∧ t = g u := by
  obtain r | u := x
  · cases h
  · exact ⟨u, rfl, (Host.Outcome.next.inj h).symm⟩

end Inversion

/-! ## What is fixed when the chip is made (R6-R8, log 1) -/

/-- The three parameters of the spec that the state carries: the ROM image, the part and the circuit code. -/
def State.chip (s : State) : Memory 8 × Part × IoCode := (s.rom, s.part, s.ioCode)

theorem chip_eq_iff : t.chip = s.chip ↔ t.rom = s.rom ∧ t.part = s.part ∧ t.ioCode = s.ioCode := by
  simp [State.chip]

section Updates

variable (s : State)

@[simp] theorem State.setPc_chip (v : RomAddr) : (s.setPc v).chip = s.chip := rfl
@[simp] theorem State.setAc_chip (v : Nibble) : (s.setAc v).chip = s.chip := rfl
@[simp] theorem State.setHr_chip (v : Nibble) : (s.setHr v).chip = s.chip := rfl
@[simp] theorem State.setLr_chip (v : Nibble) : (s.setLr v).chip = s.chip := rfl
@[simp] theorem State.setCf_chip (v : Bool) : (s.setCf v).chip = s.chip := rfl
@[simp] theorem State.setZf_chip (v : Bool) : (s.setZf v).chip = s.chip := rfl
@[simp] theorem State.setSf_chip (v : Bool) : (s.setSf v).chip = s.chip := rfl
@[simp] theorem State.setGf_chip (v : Bool) : (s.setGf v).chip = s.chip := rfl
@[simp] theorem State.setRam_chip (v : Memory 4) : (s.setRam v).chip = s.chip := rfl
@[simp] theorem State.setEif_chip (v : Bool) : (s.setEif v).chip = s.chip := rfl
@[simp] theorem State.setEir_chip (v : Nibble) : (s.setEir v).chip = s.chip := rfl
@[simp] theorem State.setIntl_chip (v : BitVec 6) : (s.setIntl v).chip = s.chip := rfl
@[simp] theorem State.setPorts_chip (v : Ports) : (s.setPorts v).chip = s.chip := rfl
@[simp] theorem State.setCmds_chip (v : Commands) : (s.setCmds v).chip = s.chip := rfl
@[simp] theorem State.setDivider_chip (v : BitVec 19) : (s.setDivider v).chip = s.chip := rfl
@[simp] theorem State.setSio_chip (v : Serial) : (s.setSio v).chip = s.chip := rfl
@[simp] theorem State.setCntl1_chip (v : Bool) : (s.setCntl1 v).chip = s.chip := rfl
@[simp] theorem State.setCntl2_chip (v : Bool) : (s.setCntl2 v).chip = s.chip := rfl
@[simp] theorem State.setPrev_chip (v : EdgePins) : (s.setPrev v).chip = s.chip := rfl
@[simp] theorem State.setEnv_chip (v : Env) : (s.setEnv v).chip = s.chip := rfl
@[simp] theorem State.setInputs_chip (v : List Env) : (s.setInputs v).chip = s.chip := rfl
@[simp] theorem State.setFreeCount_chip (v : Nat) : (s.setFreeCount v).chip = s.chip := rfl

/-! The operations of instructions that cannot be refused -/

@[simp] theorem advance_chip (len : RomAddr) : (advance len s).chip = s.chip := rfl
@[simp] theorem sumFlags_chip (r : Nibble × Bool) : (sumFlags r s).chip = s.chip := rfl
@[simp] theorem differenceFlags_chip (r : Nibble × Bool) : (differenceFlags r s).chip = s.chip := rfl
@[simp] theorem logicFlags_chip (v : Nibble) : (logicFlags v s).chip = s.chip := rfl
@[simp] theorem compareFlags_chip (a b : Nibble) : (compareFlags a b s).chip = s.chip := by
  simp [compareFlags_eq]
@[simp] theorem compareFlagsCf_chip (a b : Nibble) : (compareFlagsCf a b s).chip = s.chip := by
  simp [compareFlagsCf_eq]
@[simp] theorem rotateFlags_chip (v : Nibble) (out : Bool) : (rotateFlags v out s).chip = s.chip := rfl
@[simp] theorem loadAc_chip (v : Nibble) : (loadAc v s).chip = s.chip := rfl
@[simp] theorem memWrite_chip (a : RamAddr) (v : Nibble) : (memWrite s a v).chip = s.chip :=
  State.setRam_chip s _
@[simp] theorem writeHL_chip (v : Nibble) : (writeHL v s).chip = s.chip := memWrite_chip s _ v
@[simp] theorem incrementL_chip : (incrementL s).chip = s.chip := rfl
@[simp] theorem decrementL_chip : (decrementL s).chip = s.chip := rfl
@[simp] theorem stackRestore_chip : (stackRestore s).chip = s.chip := memWrite_chip s _ _

@[simp] theorem writeTriple_chip (base : RamAddr) (v : RomAddr) : (writeTriple s base v).chip = s.chip := by
  rw [writeTriple_frame, State.setRam_chip]

@[simp] theorem stackSave_chip (pc12 : RomAddr) (w3 : Nibble) : (stackSave pc12 w3 s).chip = s.chip := by
  rw [stackSave_frame, State.setRam_chip]

@[simp] theorem returnFromInterrupt_chip : (returnFromInterrupt s).chip = s.chip := by
  rw [returnFromInterrupt_frame]
  simp

@[simp] theorem branchTo_chip (target : RomAddr) : (branchTo target s).chip = s.chip := by
  unfold branchTo
  split <;> simp

end Updates

/-! The operations that can be refused -/

theorem portIn_chip {p v : Nibble} (h : portIn p s = .ok (v, t)) : t.chip = s.chip := by
  rw [portIn_frame s p v t h]
  simp

theorem portTest_chip {p v : Nibble} (h : portTest p s = .ok (v, t)) : t.chip = s.chip := by
  unfold portTest at h
  split at h
  · cases h
  · exact portIn_chip h

theorem portOut_chip {p : PortAddr} {v : Nibble} (h : portOut p v s = .ok t) : t.chip = s.chip := by
  rw [portOut_frame s p v t h]
  simp

theorem updateLatch_chip {p : Nibble} {change : Nibble → Nibble} (h : updateLatch p change s = .ok t) :
    t.chip = s.chip := by
  rw [updateLatch_frame s p change t h, State.setPorts_chip]

theorem callTo_chip {target : RomAddr} (h : callTo target s = .next t) : t.chip = s.chip := by
  obtain ⟨-, rfl⟩ := next_of_guard h
  simp

/-- No instruction changes the chip: not the operation that can be refused, where it has one, and not the updates of other
fields that follow. -/
theorem exec_chip {i : Instr} (h : exec i s = .next t) : t.chip = s.chip := by
  cases i with
  | testPB p b | testpPB p b | testL =>
    obtain ⟨v, u, hread, rfl⟩ := next_of_read h
    simpa using portTest_chip hread
  | inPA p | inPHL p =>
    obtain ⟨v, u, hread, rfl⟩ := next_of_read h
    simpa using portIn_chip hread
  | outAP p | outHLP p | outKP k p =>
    obtain ⟨u, hwrite, rfl⟩ := next_of_write h
    simpa using portOut_chip hwrite
  | setPB p b | clrPB p b | setL | clrL =>
    obtain ⟨u, hwrite, rfl⟩ := next_of_write h
    simpa using updateLatch_chip hwrite
  | call a => simpa using callTo_chip (s := advance 2#12 s) h
  | calls n => simpa using callTo_chip (s := advance 1#12 s) h
  | ret | reti =>
    obtain ⟨-, rfl⟩ := next_of_guard h
    simp
  | _ =>
    obtain rfl := Host.Outcome.next.inj h
    simp

/-! The rest of a step -/

theorem tickDividerInterrupt_chip (s : State) (next : BitVec 19) : (tickDividerInterrupt next s).chip = s.chip := by
  rw [tickDividerInterrupt_frame, State.setIntl_chip]

theorem tickPinInterrupts_chip (s : State) (now : EdgePins) : (tickPinInterrupts now s).chip = s.chip := by
  rw [tickPinInterrupts_frame, State.setIntl_chip]

theorem tickCountPulses_chip (s : State) (next : BitVec 19) (now : EdgePins) :
    (tickCountPulses next now s).chip = s.chip := rfl

theorem SerialOnly.chip (h : SerialOnly s t) : t.chip = s.chip := by
  rw [h.frame]
  simp

theorem tick_chip (s : State) : (tick s).chip = s.chip := by
  unfold tick
  simp only [State.setPrev_chip, State.setDivider_chip]
  rw [(serialTick_serialOnly _ _ _ _).chip, tickCountPulses_chip, tickPinInterrupts_chip, tickDividerInterrupt_chip]

theorem countOperation_chip (s : State) (ch : Channel) : (countOperation ch s).chip = s.chip := by
  rw [countOperation_frame]
  cases ch <;> simp [clearCount]

theorem acceptInterrupt_chip (s : State) (f : Factor) : (acceptInterrupt f s).chip = s.chip := by
  rw [acceptInterrupt_frame]
  simp

theorem afterInstruction_chip (s : State) (n : Nat) : (afterInstruction n s).chip = s.chip :=
  afterInstruction_induction (fun u => u.chip = s.chip) (fun u hu => (tick_chip u).trans hu)
    (fun ch u hu => (countOperation_chip u ch).trans hu) n rfl

theorem decisionPoint_chip (h : decisionPoint s = .next t) : t.chip = s.chip := by
  obtain ⟨-, rfl⟩ | ⟨f, -, -, rfl⟩ := decisionPoint_next h
  · rfl
  · simp only [ticks, tick_chip, acceptInterrupt_chip]

theorem nextEnv_chip (s : State) : (nextEnv s).chip = s.chip := by
  rw [nextEnv_frame]
  simp

/-! The initialization operation -/

theorem resetMachine_chip (s : State) : (resetMachine s).chip = s.chip := rfl

theorem powerUpMachine_chip (s : State) : (powerUpMachine s).chip = s.chip := by
  rw [powerUpMachine_frame, State.setFreeCount_chip, State.setRam_chip, resetMachine_chip]

theorem abandonStep_chip (s : State) : (abandonStep s).chip = s.chip := by
  obtain h | ⟨i, u, -, -, -, h⟩ := abandonStep_cases s
  · rw [h, powerUpMachine_chip]
  · rw [h, resetMachine_chip, freeWords_frame]
    simp

/-- The whole step: each of the three resets, and an instruction with all that follows it. -/
theorem step_chip (h : step s = .next t) : t.chip = s.chip := by
  obtain ⟨-, rfl⟩ | ⟨-, rfl⟩ | ⟨-, rfl⟩ | ⟨-, i, u, v, -, hexec, hdecide, rfl⟩ := step_next h
  · rw [nextEnv_chip, resetMachine_chip]
  · rw [nextEnv_chip, abandonStep_chip]
  · rw [nextEnv_chip, powerUpMachine_chip]
  · rw [nextEnv_chip, decisionPoint_chip hdecide, afterInstruction_chip, exec_chip hexec]

/-- Settles O58: every part of a step keeps the chip. -/
theorem stepKeepsTheChip : Obligations.StepKeepsTheChip :=
  fun _ _ h => chip_eq_iff.mp (step_chip h)

end Sys2Proof.Machine
end

section
/-! The registers across one instruction: where PC goes, and which instructions write CF and GF. -/

namespace Sys2Proof.Machine

variable {s t : State}

/-! ## PC, CF and GF after an operation of an instruction (R23, R28, R29)

One lemma for each operation, for the three registers together; an operation keeps those its name does not speak of. -/

section Operations

variable (s : State)

@[simp] theorem advance_pc_cf_gf (len : RomAddr) :
    (advance len s).pc = s.pc + len ∧ (advance len s).cf = s.cf ∧ (advance len s).gf = s.gf := ⟨rfl, rfl, rfl⟩

@[simp] theorem sumFlags_pc_cf_gf (r : Nibble × Bool) :
    (sumFlags r s).pc = s.pc ∧ (sumFlags r s).cf = s.cf ∧ (sumFlags r s).gf = s.gf := ⟨rfl, rfl, rfl⟩

@[simp] theorem differenceFlags_pc_cf_gf (r : Nibble × Bool) :
    (differenceFlags r s).pc = s.pc ∧ (differenceFlags r s).cf = s.cf ∧ (differenceFlags r s).gf = s.gf :=
  ⟨rfl, rfl, rfl⟩

@[simp] theorem logicFlags_pc_cf_gf (v : Nibble) :
    (logicFlags v s).pc = s.pc ∧ (logicFlags v s).cf = s.cf ∧ (logicFlags v s).gf = s.gf := ⟨rfl, rfl, rfl⟩

@[simp] theorem compareFlags_pc_cf_gf (a b : Nibble) :
    (compareFlags a b s).pc = s.pc ∧ (compareFlags a b s).cf = s.cf ∧ (compareFlags a b s).gf = s.gf :=
  logicFlags_pc_cf_gf s _

/-- The compares that write CF (D13, log 16). -/
@[simp] theorem compareFlagsCf_pc_gf (a b : Nibble) :
    (compareFlagsCf a b s).pc = s.pc ∧ (compareFlagsCf a b s).gf = s.gf := by
  simp [compareFlagsCf_eq]

@[simp] theorem rotateFlags_pc_gf (v : Nibble) (out : Bool) :
    (rotateFlags v out s).pc = s.pc ∧ (rotateFlags v out s).gf = s.gf := ⟨rfl, rfl⟩

@[simp] theorem loadAc_pc_cf_gf (v : Nibble) :
    (loadAc v s).pc = s.pc ∧ (loadAc v s).cf = s.cf ∧ (loadAc v s).gf = s.gf := ⟨rfl, rfl, rfl⟩

@[simp] theorem incrementL_pc_cf_gf :
    (incrementL s).pc = s.pc ∧ (incrementL s).cf = s.cf ∧ (incrementL s).gf = s.gf := ⟨rfl, rfl, rfl⟩

@[simp] theorem decrementL_pc_cf_gf :
    (decrementL s).pc = s.pc ∧ (decrementL s).cf = s.cf ∧ (decrementL s).gf = s.gf := ⟨rfl, rfl, rfl⟩

@[simp] theorem memWrite_pc_cf_gf (a : RamAddr) (v : Nibble) :
    (memWrite s a v).pc = s.pc ∧ (memWrite s a v).cf = s.cf ∧ (memWrite s a v).gf = s.gf := ⟨rfl, rfl, rfl⟩

@[simp] theorem writeHL_pc_cf_gf (v : Nibble) :
    (writeHL v s).pc = s.pc ∧ (writeHL v s).cf = s.cf ∧ (writeHL v s).gf = s.gf := memWrite_pc_cf_gf s _ v

@[simp] theorem writeTriple_pc_cf_gf (base : RamAddr) (v : RomAddr) :
    (writeTriple s base v).pc = s.pc ∧ (writeTriple s base v).cf = s.cf ∧ (writeTriple s base v).gf = s.gf := by
  rw [writeTriple_frame]
  simp

@[simp] theorem stackSave_pc_cf_gf (pc12 : RomAddr) (w3 : Nibble) :
    (stackSave pc12 w3 s).pc = s.pc ∧ (stackSave pc12 w3 s).cf = s.cf ∧ (stackSave pc12 w3 s).gf = s.gf := by
  rw [stackSave_frame]
  simp

@[simp] theorem stackRestore_pc_cf_gf :
    (stackRestore s).pc = s.pc ∧ (stackRestore s).cf = s.cf ∧ (stackRestore s).gf = s.gf := memWrite_pc_cf_gf s _ _

@[simp] theorem branchTo_cf_gf (target : RomAddr) :
    (branchTo target s).cf = s.cf ∧ (branchTo target s).gf = s.gf := by
  unfold branchTo
  split <;> exact ⟨rfl, rfl⟩

end Operations

/-! The operations that can be refused -/

theorem portIn_pc_cf_gf {p v : Nibble} (h : portIn p s = .ok (v, t)) : t.pc = s.pc ∧ t.cf = s.cf ∧ t.gf = s.gf := by
  rw [portIn_frame s p v t h]
  simp

theorem portIn_of_portTest {p v : Nibble} (h : portTest p s = .ok (v, t)) : portIn p s = .ok (v, t) := by
  unfold portTest at h
  split at h
  · cases h
  · exact h

theorem portOut_pc_cf_gf {p : PortAddr} {v : Nibble} (h : portOut p v s = .ok t) :
    t.pc = s.pc ∧ t.cf = s.cf ∧ t.gf = s.gf := by
  rw [portOut_frame s p v t h]
  simp

theorem updateLatch_pc_cf_gf {p : Nibble} {change : Nibble → Nibble} (h : updateLatch p change s = .ok t) :
    t.pc = s.pc ∧ t.cf = s.cf ∧ t.gf = s.gf := by
  rw [updateLatch_frame s p change t h]
  simp

theorem callTo_cf_gf {target : RomAddr} (h : callTo target s = .next t) : t.cf = s.cf ∧ t.gf = s.gf := by
  obtain ⟨-, rfl⟩ := next_of_guard h
  simp

/-! ## PC, CF and GF after an instruction -/

/-- Each of PC, CF and GF is as a plain instruction leaves it, or `i` is of the kind that writes it otherwise. -/
structure PlainOrWriter (i : Instr) (s t : State) : Prop where
  pc : t.pc = s.pc + BitVec.ofNat 12 (instrLength i) ∨
    (∃ a, i = .bs a) ∨ (∃ d, i = .bss d) ∨ (∃ a, i = .call a) ∨ (∃ k, i = .calls k) ∨ i = .ret ∨ i = .reti
  cf : t.cf = s.cf ∨
    i = .addcAHL ∨ i = .subrcAHL ∨ i = .rolcA ∨ i = .rorcA ∨ i = .testCF ∨ i = .testpCF ∨ i = .reti ∨
      i = .cmprAHL ∨ (∃ x, i = .cmprAX x) ∨ (∃ k, i = .cmprAK k) ∨ ∃ y k, i = .cmprYK y k
  gf : t.gf = s.gf ∨ i = .setGF ∨ i = .clrGF ∨ i = .reti

/-- An instruction that keeps CF and GF and goes on to the next one. -/
theorem PlainOrWriter.of_plain {i : Instr} (hpc : t.pc = s.pc + BitVec.ofNat 12 (instrLength i)) (hcf : t.cf = s.cf)
    (hgf : t.gf = s.gf) : PlainOrWriter i s t :=
  ⟨.inl hpc, .inl hcf, .inl hgf⟩

theorem exec_plainOrWriter {i : Instr} (h : exec i s = .next t) : PlainOrWriter i s t := by
  cases i with
  | testPB p b | testpPB p b | testL =>
    obtain ⟨v, u, hread, rfl⟩ := next_of_read h
    obtain ⟨hpc, hcf, hgf⟩ := portIn_pc_cf_gf (portIn_of_portTest hread)
    apply PlainOrWriter.of_plain <;> simp [hpc, hcf, hgf, instrLength]
  | inPA p | inPHL p =>
    obtain ⟨v, u, hread, rfl⟩ := next_of_read h
    obtain ⟨hpc, hcf, hgf⟩ := portIn_pc_cf_gf hread
    apply PlainOrWriter.of_plain <;> simp [hpc, hcf, hgf, instrLength]
  | outAP p | outHLP p | outKP k p =>
    obtain ⟨u, hwrite, rfl⟩ := next_of_write h
    obtain ⟨hpc, hcf, hgf⟩ := portOut_pc_cf_gf hwrite
    apply PlainOrWriter.of_plain <;> simp [hpc, hcf, hgf, instrLength]
  | setPB p b | clrPB p b | setL | clrL =>
    obtain ⟨u, hwrite, rfl⟩ := next_of_write h
    obtain ⟨hpc, hcf, hgf⟩ := updateLatch_pc_cf_gf hwrite
    apply PlainOrWriter.of_plain <;> simp [hpc, hcf, hgf, instrLength]
  | call a | calls n =>
    obtain ⟨hcf, hgf⟩ := callTo_cf_gf h
    exact ⟨by simp, .inl hcf, .inl hgf⟩
  | ret | reti =>
    obtain ⟨-, rfl⟩ := next_of_guard h
    constructor <;> simp
  | _ =>
    obtain rfl := Host.Outcome.next.inj h
    constructor <;> simp [instrLength]

/-- Settles O37: an instruction keeps each of the two flags or is one of its writers. -/
theorem flagWriters : Obligations.FlagWriters := by
  unfold Obligations.FlagWriters
  intro i s t h
  obtain ⟨-, hcf, hgf⟩ := exec_plainOrWriter h
  exact ⟨hgf.resolve_left, hcf.resolve_left⟩

theorem encode_length (i : Instr) : (encode i).length = instrLength i := by
  cases i <;> rfl

/-- An instruction that is no branch, call or return goes on to the next one. -/
theorem exec_pc_of_sequential {i : Instr} (h : exec i s = .next t) (hbs : ∀ a, i ≠ .bs a) (hbss : ∀ d, i ≠ .bss d)
    (hcall : ∀ a, i ≠ .call a) (hcalls : ∀ k, i ≠ .calls k) (hret : i ≠ .ret) (hreti : i ≠ .reti) :
    t.pc = s.pc + BitVec.ofNat 12 (instrLength i) := by
  obtain hpc | ⟨a, hi⟩ | ⟨d, hi⟩ | ⟨a, hi⟩ | ⟨k, hi⟩ | hi | hi := (exec_plainOrWriter h).pc
  · exact hpc
  · exact absurd hi (hbs a)
  · exact absurd hi (hbss d)
  · exact absurd hi (hcall a)
  · exact absurd hi (hcalls k)
  · exact absurd hi hret
  · exact absurd hi hreti

/-- Settles O39: the 12-bit addition is the sum modulo 4096. -/
theorem sequentialProgramCounter : Obligations.SequentialProgramCounter := by
  unfold Obligations.SequentialProgramCounter
  intro i s t h hbs hbss hcall hcalls hret hreti
  have hpc := exec_pc_of_sequential h hbs hbss hcall hcalls hret hreti
  rw [hpc, encode_length, BitVec.toNat_add, BitVec.toNat_ofNat, Nat.add_mod_mod]

end Sys2Proof.Machine
end

section
/-! The outputs to the command registers, the stops at stack level F, and the state after reset. -/

namespace Sys2Proof.Machine

variable {s t : State}

/-! ## Outputs (R268, R269) -/

theorem exec_outAP_of_portOut {p : PortAddr} (h : portOut p s.ac s = .ok t) :
    exec (.outAP p) s = .next (advance 2#12 (t.setSf true)) := by
  simp [exec, execOutAP, h]

theorem exec_outHLP_of_portOut {p : PortAddr} (h : portOut p (readHL s) s = .ok t) :
    exec (.outHLP p) s = .next (advance 2#12 (t.setSf true)) := by
  simp [exec, execOutHLP, h]

theorem portOut_cmd19 (s : State) (v : Nibble) : portOut 0x19 v s = .ok (s.setCmds { s.cmds with cmd19 := v }) := rfl

theorem portOut_cmd1C (s : State) (v : Nibble) : portOut 0x1C v s = .ok (s.setCmds { s.cmds with cmd1C := v }) := rfl

theorem portOut_cmd1D (s : State) (v : Nibble) : portOut 0x1D v s = .ok (s.setCmds { s.cmds with cmd1D := v }) := rfl

/-- The two bytes of an input or output instruction (group OP3A, R126). -/
theorem encodes_of_decode3A {b : Byte} {i : Instr} (h : decode3A b = some i) : Encodes [0x3A, b] i (instrCycles i) := by
  refine ⟨fun rest => ?_, rfl⟩
  have htwo : decodeTwo 0x3A#8 b = some i := h
  have hfirst : isTwoByte 0x3A#8 = true := rfl
  simp [decode, hfirst, htwo]

/-- Settles O21: the output of each port writes its register, and group OP3A reads the six encodings. -/
theorem outputCommandResults : Obligations.OutputCommandResults := by
  unfold Obligations.OutputCommandResults
  refine ⟨?_, ?_, ?_, ?_, ?_, ?_, ?_, ?_, ?_, ?_, ?_, ?_⟩
  · exact fun s => exec_outAP_of_portOut (portOut_cmd19 s _)
  · exact fun s => exec_outAP_of_portOut (portOut_cmd1C s _)
  · exact fun s => exec_outAP_of_portOut (portOut_cmd1D s _)
  · exact fun s => exec_outHLP_of_portOut (portOut_cmd19 s _)
  · exact fun s => exec_outHLP_of_portOut (portOut_cmd1C s _)
  · exact fun s => exec_outHLP_of_portOut (portOut_cmd1D s _)
  all_goals exact encodes_of_decode3A rfl

/-! ## Stack level F (R39, R294, U6) -/

@[simp] theorem spw_advance (s : State) (len : RomAddr) : spw (advance len s) = spw s := rfl

theorem callTo_levelF (h : spw s = forbiddenLevel) (target : RomAddr) : callTo target s = .refused .stackLevelF :=
  if_pos h

/-- A return reads the level above SPW. -/
theorem restoreLevel_eq_forbiddenLevel (h : spw s = 0xE) : restoreLevel s = forbiddenLevel := by
  rw [restoreLevel, h]
  rfl

/-- Settles O29: the guard of each of the four instructions holds. -/
theorem stackLevelFStops : Obligations.StackLevelFStops := by
  unfold Obligations.StackLevelFStops
  refine ⟨fun s h => ⟨fun a => ?_, fun k => ?_⟩, fun s h => ⟨?_, ?_⟩⟩
  · exact callTo_levelF ((spw_advance s 2#12).trans h) _
  · exact callTo_levelF ((spw_advance s 1#12).trans h) _
  · exact if_pos (restoreLevel_eq_forbiddenLevel h)
  · exact if_pos (restoreLevel_eq_forbiddenLevel h)

/-! ## The state after reset (R60) -/

theorem reset_serial_disabled : State.reset.cmds.cmd1F.getLsbD 3 ≠ true := Bool.false_ne_true

/-- Settles O60: the memories are blank and the serial port is disabled. -/
theorem resetHasInvariant : Obligations.ResetHasInvariant := by
  obtain ⟨hram, hrom⟩ := State.reset_memory_wf
  refine ⟨hram, hrom, fun h => ?_, fun h => ?_⟩
  · exact absurd h reset_serial_disabled
  · exact absurd h reset_serial_disabled

end Sys2Proof.Machine
end

section
/-! The port side of the machine and its data memory under one instruction: which instructions touch a port latch, a command
register or the serial port, which ports an instruction refuses, and which RAM words it writes. -/

namespace Sys2Proof.Machine

variable {s t : State}

/-! ## What only an input or output reaches (R70, R79) -/

/-- What a program reaches only through a port address: the latches, the command registers and the serial port. -/
def State.portSide (s : State) : Ports × Commands × Serial := (s.ports, s.cmds, s.sio)

theorem portSide_eq_iff : t.portSide = s.portSide ↔ t.ports = s.ports ∧ t.cmds = s.cmds ∧ t.sio = s.sio := by
  simp [State.portSide]

section Updates

variable (s : State)

@[simp] theorem State.setPc_portSide (v : RomAddr) : (s.setPc v).portSide = s.portSide := rfl
@[simp] theorem State.setAc_portSide (v : Nibble) : (s.setAc v).portSide = s.portSide := rfl
@[simp] theorem State.setHr_portSide (v : Nibble) : (s.setHr v).portSide = s.portSide := rfl
@[simp] theorem State.setLr_portSide (v : Nibble) : (s.setLr v).portSide = s.portSide := rfl
@[simp] theorem State.setCf_portSide (v : Bool) : (s.setCf v).portSide = s.portSide := rfl
@[simp] theorem State.setSf_portSide (v : Bool) : (s.setSf v).portSide = s.portSide := rfl
@[simp] theorem State.setGf_portSide (v : Bool) : (s.setGf v).portSide = s.portSide := rfl
@[simp] theorem State.setRam_portSide (v : Memory 4) : (s.setRam v).portSide = s.portSide := rfl
@[simp] theorem State.setEif_portSide (v : Bool) : (s.setEif v).portSide = s.portSide := rfl
@[simp] theorem State.setEir_portSide (v : Nibble) : (s.setEir v).portSide = s.portSide := rfl
@[simp] theorem State.setIntl_portSide (v : BitVec 6) : (s.setIntl v).portSide = s.portSide := rfl

/-! The operations on the CPU's registers leave the port side and RAM; a write of RAM leaves the port side. -/

@[simp] theorem advance_portSide_ram (len : RomAddr) :
    (advance len s).portSide = s.portSide ∧ (advance len s).ram = s.ram := ⟨rfl, rfl⟩

@[simp] theorem sumFlags_portSide_ram (r : Nibble × Bool) :
    (sumFlags r s).portSide = s.portSide ∧ (sumFlags r s).ram = s.ram := ⟨rfl, rfl⟩

@[simp] theorem differenceFlags_portSide_ram (r : Nibble × Bool) :
    (differenceFlags r s).portSide = s.portSide ∧ (differenceFlags r s).ram = s.ram := ⟨rfl, rfl⟩

@[simp] theorem logicFlags_portSide_ram (v : Nibble) :
    (logicFlags v s).portSide = s.portSide ∧ (logicFlags v s).ram = s.ram := ⟨rfl, rfl⟩

@[simp] theorem rotateFlags_portSide_ram (v : Nibble) (out : Bool) :
    (rotateFlags v out s).portSide = s.portSide ∧ (rotateFlags v out s).ram = s.ram := ⟨rfl, rfl⟩

@[simp] theorem loadAc_portSide_ram (v : Nibble) :
    (loadAc v s).portSide = s.portSide ∧ (loadAc v s).ram = s.ram := ⟨rfl, rfl⟩

@[simp] theorem incrementL_portSide_ram :
    (incrementL s).portSide = s.portSide ∧ (incrementL s).ram = s.ram := ⟨rfl, rfl⟩

@[simp] theorem decrementL_portSide_ram :
    (decrementL s).portSide = s.portSide ∧ (decrementL s).ram = s.ram := ⟨rfl, rfl⟩

@[simp] theorem compareFlags_portSide_ram (a b : Nibble) :
    (compareFlags a b s).portSide = s.portSide ∧ (compareFlags a b s).ram = s.ram := logicFlags_portSide_ram s _

@[simp] theorem compareFlagsCf_portSide_ram (a b : Nibble) :
    (compareFlagsCf a b s).portSide = s.portSide ∧ (compareFlagsCf a b s).ram = s.ram := compareFlags_portSide_ram s a b

@[simp] theorem branchTo_portSide_ram (target : RomAddr) :
    (branchTo target s).portSide = s.portSide ∧ (branchTo target s).ram = s.ram := by
  unfold branchTo
  split <;> exact ⟨rfl, rfl⟩

@[simp] theorem memWrite_portSide (a : RamAddr) (v : Nibble) : (memWrite s a v).portSide = s.portSide :=
  State.setRam_portSide s _

@[simp] theorem writeHL_portSide (v : Nibble) : (writeHL v s).portSide = s.portSide := memWrite_portSide s _ v

@[simp] theorem writeTriple_portSide (base : RamAddr) (v : RomAddr) : (writeTriple s base v).portSide = s.portSide := by
  rw [writeTriple_frame, State.setRam_portSide]

end Updates

/-- A tested port is not the serial buffer, so a test leaves every port as it is (R80, R235). -/
theorem portTest_portSide {p v : Nibble} (h : portTest p s = .ok (v, t)) : t.portSide = s.portSide := by
  have hbuffer : p ≠ 0xF#4 := by
    rintro rfl
    cases h
  have hread := portIn_of_portTest h
  unfold portIn at hread
  split at hread
  case h_11 hp => exact absurd (BitVec.eq_of_toNat_eq hp) hbuffer
  case h_12 => cases hread
  all_goals
    cases hread
    rfl

/-- The instructions with a port operand, `OUTB @HL`, and `SET @L` and `CLR @L`: all input and output but the tests. -/
def AccessesPort (i : Instr) : Prop :=
  (∃ p, i = .inPA p) ∨ (∃ p, i = .inPHL p) ∨ (∃ p, i = .outAP p) ∨ (∃ p, i = .outHLP p) ∨ (∃ k p, i = .outKP k p) ∨
    i = .outbHL ∨ (∃ p b, i = .setPB p b) ∨ (∃ p b, i = .clrPB p b) ∨ i = .setL ∨ i = .clrL

/-- An instruction keeps the port side or is one of those: a test only reads, and what is left updates other fields. -/
theorem exec_portSide {i : Instr} (h : exec i s = .next t) : t.portSide = s.portSide ∨ AccessesPort i := by
  cases i with
  | inPA p | inPHL p | outAP p | outHLP p | outKP k p | outbHL | setPB p b | clrPB p b | setL | clrL =>
    exact .inr (by simp [AccessesPort])
  | testPB p b | testpPB p b | testL =>
    obtain ⟨v, u, hread, rfl⟩ := next_of_read h
    have hside : u.portSide = s.portSide := portTest_portSide hread
    exact .inl hside
  | call a | calls n | ret | reti =>
    obtain ⟨-, rfl⟩ := next_of_guard h
    exact .inl (portSide_eq_iff.mpr ⟨rfl, rfl, rfl⟩)
  | _ =>
    obtain rfl := Host.Outcome.next.inj h
    exact .inl (by simp)

/-- Settles O40: one of the three kinds of port register differs, so the port side does. -/
theorem portAccessIsByPortInstructions : Obligations.PortAccessIsByPortInstructions := by
  unfold Obligations.PortAccessIsByPortInstructions
  intro i s t h hdiff
  refine (exec_portSide h).resolve_left fun hsame => ?_
  obtain ⟨hports, hcmds, hsio⟩ := portSide_eq_iff.mp hsame
  simp [hports, hcmds, hsio] at hdiff

/-! ## Which ports an instruction refuses (R80, R82, R83) -/

/-- An input is refused at every port its column of R80 does not mark. -/
theorem portIn_unlisted {p : Nibble} (hp : p.toNat ∉ inPorts) (s : State) :
    portIn p s = .error (.portNotAllowed (p.setWidth 5)) := by
  unfold portIn
  split
  case h_12 => rfl
  all_goals
    next hport => simp [hport, inPorts] at hp

theorem portTest_unlisted {p : Nibble} (hp : p.toNat ∉ testPorts) (s : State) :
    portTest p s = .error (.portNotAllowed (p.setWidth 5)) := by
  unfold portTest
  split
  · rfl
  · next hbuffer =>
    have hcolumns : ∀ q : Nibble, q ≠ 0xF#4 → q.toNat ∉ testPorts → q.toNat ∉ inPorts := by decide
    exact portIn_unlisted (hcolumns p hbuffer hp) s

theorem updateLatch_unlisted {p : Nibble} (hp : p.toNat ∉ setClrPorts) (change : Nibble → Nibble) (s : State) :
    updateLatch p change s = .error (.portNotAllowed (p.setWidth 5)) := by
  have hlatch : portLatch p s = none := by
    unfold portLatch
    split
    case h_9 => rfl
    all_goals
      next hport => simp [hport, setClrPorts] at hp
  simp [updateLatch, hlatch]

theorem portOut_unlisted {p : PortAddr} (hp : p.toNat ∉ outPorts) (hp11 : p ≠ 0x11#5) (v : Nibble) (s : State) :
    portOut p v s = .error (.portNotAllowed p) := by
  unfold portOut
  split
  case h_10 hport => exact absurd (BitVec.eq_of_toNat_eq hport) hp11
  case h_15 => rfl
  all_goals
    next hport => simp [hport, outPorts] at hp

/-- An output of 8 or 9 to the serial command register sets ESIO with the mode 00 (R371, U7). -/
theorem portOut_serialModeUnusable {v : Nibble} (hv : v = 0x8 ∨ v = 0x9) (s : State) :
    portOut 0x1F v s = .error .serialModeUnusable := by
  refine if_pos ?_
  obtain rfl | rfl := hv <;> rfl

theorem setWidth_port (p : Nibble) : p.setWidth 5 = 0#1 ++ p := by
  revert p
  decide

/-! An instruction is refused as its access to the port is. -/

section Refusals

variable {p : Nibble} {q : PortAddr} {r : Refusal}

theorem exec_in_refused (h : portIn p s = .error r) :
    exec (.inPA p) s = .refused r ∧ exec (.inPHL p) s = .refused r := by
  simp [exec, execInPA, execInPHL, h]

theorem exec_test_refused (h : portTest p s = .error r) (b : BitVec 2) :
    exec (.testPB p b) s = .refused r ∧ exec (.testpPB p b) s = .refused r := by
  simp [exec, execTestPB, execTestpPB, h]

theorem exec_setClr_refused (h : ∀ change, updateLatch p change s = .error r) (b : BitVec 2) :
    exec (.setPB p b) s = .refused r ∧ exec (.clrPB p b) s = .refused r := by
  simp [exec, execSetPB, execClrPB, h]

theorem exec_outKP_refused {k : Nibble} (h : portOut (p.setWidth 5) k s = .error r) :
    exec (.outKP k p) s = .refused r := by
  simp [exec, execOutKP, h]

theorem exec_outAP_refused (h : portOut q s.ac s = .error r) : exec (.outAP q) s = .refused r := by
  simp [exec, execOutAP, h]

theorem exec_outHLP_refused (h : portOut q (readHL s) s = .error r) : exec (.outHLP q) s = .refused r := by
  simp [exec, execOutHLP, h]

end Refusals

/-- Settles O30: the listed ports are in no column of R80, and the refusal names them. -/
theorem portStops : Obligations.PortStops := by
  unfold Obligations.PortStops
  simp only [← setWidth_port]
  refine ⟨?_, ?_, ?_, ?_, ?_, ?_, ?_, ?_⟩
  · intro p hp s
    have hcolumn : p.toNat ∉ inPorts := by revert p; decide
    exact exec_in_refused (portIn_unlisted hcolumn s)
  · intro p hp s b
    have hcolumn : p.toNat ∉ testPorts := by revert p; decide
    exact exec_test_refused (portTest_unlisted hcolumn s) b
  · intro p hp s b
    have hcolumn : p.toNat ∉ setClrPorts := by revert p; decide
    exact exec_setClr_refused (fun change => updateLatch_unlisted hcolumn change s) b
  · intro p hp s k
    obtain ⟨hcolumn, hp11⟩ : (p.setWidth 5).toNat ∉ outPorts ∧ p.setWidth 5 ≠ 0x11#5 := by revert p; decide
    exact exec_outKP_refused (portOut_unlisted hcolumn hp11 k s)
  · intro p hp s
    obtain ⟨hcolumn, hp11⟩ : p.toNat ∉ outPorts ∧ p ≠ 0x11#5 := by revert p; decide
    have hout := fun v => portOut_unlisted hcolumn hp11 v s
    exact ⟨exec_outAP_refused (hout _), exec_outHLP_refused (hout _)⟩
  · exact fun s => ⟨exec_outAP_refused rfl, exec_outHLP_refused rfl⟩
  · exact fun s hac => exec_outAP_refused (portOut_serialModeUnusable hac s)
  · exact fun s hword => exec_outHLP_refused (portOut_serialModeUnusable hword s)

/-! ## RAM words an instruction writes (R76, R77) -/

/-- Settles O41: no update between the store and the load reaches RAM. -/
theorem storeThenLoad : Obligations.StoreThenLoad := by
  unfold Obligations.StoreThenLoad
  intro s t u x y hstore hload
  obtain rfl := Host.Outcome.next.inj hstore
  obtain rfl := Host.Outcome.next.inj hload
  exact memRead_memWrite s x y s.ac

/-- `s` with these words stored at these addresses, in this order. -/
def writeWords (words : List (RamAddr × Nibble)) (s : State) : State :=
  words.foldl (fun u w => memWrite u w.1 w.2) s

theorem writeWords_wf (words : List (RamAddr × Nibble)) (h : s.ram.wf (ramSize s.part) = true) :
    (writeWords words s).ram.wf (ramSize s.part) = true := by
  induction words generalizing s with
  | nil => exact h
  | cons w rest ih => exact ih (s := memWrite s w.1 w.2) (memWrite_wf s w.1 w.2 h)

theorem portIn_ram {p v : Nibble} (h : portIn p s = .ok (v, t)) : t.ram = s.ram := by
  rw [portIn_frame s p v t h]
  simp

theorem portOut_ram {p : PortAddr} {v : Nibble} (h : portOut p v s = .ok t) : t.ram = s.ram := by
  rw [portOut_frame s p v t h]
  simp

theorem updateLatch_ram {p : Nibble} {change : Nibble → Nibble} (h : updateLatch p change s = .ok t) :
    t.ram = s.ram := by
  rw [updateLatch_frame s p change t h, State.setPorts_ram]

/-- The RAM after an instruction is that before it with one word stored at each address of `instrWords`, in that order. -/
theorem exec_ram {i : Instr} (h : exec i s = .next t) :
    ∃ words, words.map Prod.fst = instrWords i s ∧ t.ram = (writeWords words s).ram := by
  cases i with
  | stAHL | stAHLInc | stAHLDec | stAX x | stKHLInc k | stKY k y | xchAHL | xchAX x | incHL | decHL | addHLK k | addYK y k
  | subrHLK k | andHLK k | orHLK k | setHLB b | setYB y b | clrHLB b | clrYB y b =>
    obtain rfl := Host.Outcome.next.inj h
    exact ⟨[(_, _)], rfl, rfl⟩
  | xchHLX x =>
    obtain rfl := Host.Outcome.next.inj h
    exact ⟨[(_, _), (_, _)], rfl, rfl⟩
  | ldhADCInc =>
    obtain rfl := Host.Outcome.next.inj h
    exact ⟨[(_, _), (_, _), (_, _)], rfl, rfl⟩
  | call a | calls n =>
    obtain ⟨-, rfl⟩ := next_of_guard h
    exact ⟨[(_, _), (_, _), (_, _), (_, _), (_, _)], rfl, rfl⟩
  | ret | reti =>
    obtain ⟨-, rfl⟩ := next_of_guard h
    exact ⟨[(_, _)], rfl, rfl⟩
  | inPHL p =>
    obtain ⟨v, u, hread, rfl⟩ := next_of_read h
    refine ⟨[(addrHL s, v)], rfl, ?_⟩
    rw [portIn_frame s p v u hread]
    rfl
  | inPA p =>
    obtain ⟨v, u, hread, rfl⟩ := next_of_read h
    exact ⟨[], rfl, by simpa [writeWords] using portIn_ram hread⟩
  | testPB p b | testpPB p b | testL =>
    obtain ⟨v, u, hread, rfl⟩ := next_of_read h
    exact ⟨[], rfl, by simpa [writeWords] using portIn_ram (portIn_of_portTest hread)⟩
  | outAP p | outHLP p | outKP k p =>
    obtain ⟨u, hwrite, rfl⟩ := next_of_write h
    exact ⟨[], rfl, by simpa [writeWords] using portOut_ram hwrite⟩
  | setPB p b | clrPB p b | setL | clrL =>
    obtain ⟨u, hwrite, rfl⟩ := next_of_write h
    exact ⟨[], rfl, by simpa [writeWords] using updateLatch_ram hwrite⟩
  | _ =>
    obtain rfl := Host.Outcome.next.inj h
    exact ⟨[], rfl, by simp [writeWords]⟩

end Sys2Proof.Machine
end

section
/-! The invariant of the machine: memories in canonical form, and an enabled serial port in a usable mode with its transfer
in progress. -/

namespace Sys2Proof.Machine

variable {s t : State}

/-! ## The invariant of the serial port (R371, R376, R377, R379) -/

/-- While ESIO = 1 the mode is not 00 and SIOF = 1. -/
def SerialUsable (s : State) : Prop :=
  esio s.cmds.cmd1F = true → serialMode s.cmds.cmd1F ≠ .unusable ∧ s.sio.siof = true

theorem serialMode_eq_unusable_iff (c : Nibble) : serialMode c = .unusable ↔ c.extractLsb' 1 2 = 0b00#2 := by
  revert c
  decide

theorem stateInv_iff :
    StateInv s ↔ s.ram.wf (ramSize s.part) = true ∧ s.rom.wf (romSize s.part) = true ∧ SerialUsable s := by
  constructor
  · rintro ⟨hram, hrom, hmode, htransfer⟩
    exact ⟨hram, hrom, fun he => ⟨fun hu => hmode he ((serialMode_eq_unusable_iff _).mp hu), htransfer he⟩⟩
  · rintro ⟨hram, hrom, hserial⟩
    exact ⟨hram, hrom, fun he hu => (hserial he).1 ((serialMode_eq_unusable_iff _).mpr hu), fun he => (hserial he).2⟩

theorem SerialUsable.of_portSide (hs : SerialUsable s) (h : t.portSide = s.portSide) : SerialUsable t := by
  obtain ⟨-, hcmds, hsio⟩ := portSide_eq_iff.mp h
  unfold SerialUsable
  rwa [hcmds, hsio]

/-- What the port does by itself writes no command register and ends no transfer while ESIO = 1. -/
theorem SerialUsable.of_serialOnly (hs : SerialUsable s) (h : SerialOnly s t) : SerialUsable t := by
  intro he
  rw [h.cmds] at he ⊢
  obtain ⟨hmode, hsiof⟩ := hs he
  exact ⟨hmode, h.transfer he hsiof⟩

theorem readSerialBuffer_serialOnly (s : State) : SerialOnly s (readSerialBuffer s) := by
  have hfreed : SerialOnly s (setRequest false (s.setSio { s.sio with sbFull := false })) :=
    (SerialOnly.ofSio' s _ (by simp)).trans (setRequest_serialOnly _ _)
  unfold readSerialBuffer
  simp only
  split
  · exact (hfreed.trans (SerialOnly.ofSio' _ _ (by simp))).trans (setRequest_serialOnly _ _)
  · exact hfreed

theorem portIn_serialOnly {p v : Nibble} (h : portIn p s = .ok (v, t)) : SerialOnly s t := by
  unfold portIn at h
  split at h
  case h_10 =>
    cases h
    exact SerialOnly.ofSio s s.sio _ fun _ h => h
  case h_11 =>
    cases h
    exact readSerialBuffer_serialOnly s
  case h_12 => cases h
  all_goals
    cases h
    exact SerialOnly.refl s

theorem writeSerialBuffer_serialOnly (v : Nibble) (s : State) : SerialOnly s (writeSerialBuffer v s) := by
  unfold writeSerialBuffer
  split
  · exact SerialOnly.ofSio' s _ fun _ h => h
  · exact SerialOnly.refl s

/-- A command with ESIO = 1 and a usable mode starts a transfer, or the port was enabled and its transfer goes on. -/
theorem commandTransfer_siof {v : Nibble} (hs : SerialUsable s) (he : esio v = true) (hmode : serialMode v ≠ .unusable) :
    (commandTransfer v s).siof = true := by
  unfold commandTransfer
  by_cases hbefore : esio s.cmds.cmd1F = true
  · simp [he, hbefore, hmode, (hs hbefore).2]
  · simp [he, hbefore]

theorem writeSerialCommand_serialUsable {v : Nibble} (hs : SerialUsable s) (h : writeSerialCommand v s = .ok t) :
    SerialUsable t := by
  unfold writeSerialCommand at h
  split at h
  · cases h
  next haccepted =>
    have hwritten : SerialUsable ((s.setSio (commandTransfer v s)).setCmds { s.cmds with cmd1F := v }) := by
      intro (he : esio v = true)
      have hmode : serialMode v ≠ .unusable := by simpa [he] using haccepted
      exact ⟨hmode, commandTransfer_siof hs he hmode⟩
    cases h
    split
    · exact hwritten.of_serialOnly (scrambleSerial_serialOnly _)
    · exact hwritten

theorem portOut_serialUsable {p : PortAddr} {v : Nibble} (hs : SerialUsable s) (h : portOut p v s = .ok t) :
    SerialUsable t := by
  unfold portOut at h
  split at h
  case h_9 =>
    cases h
    exact hs.of_serialOnly (writeSerialBuffer_serialOnly v s)
  case h_14 => exact writeSerialCommand_serialUsable hs h
  case h_10 | h_15 => cases h
  all_goals
    cases h
    exact hs

theorem exec_serialUsable {i : Instr} (hs : SerialUsable s) (h : exec i s = .next t) : SerialUsable t := by
  cases i with
  | inPA p | inPHL p =>
    obtain ⟨v, u, hread, rfl⟩ := next_of_read h
    exact (hs.of_serialOnly (portIn_serialOnly hread)).of_portSide (by simp)
  | outAP p | outHLP p | outKP k p =>
    obtain ⟨u, hwrite, rfl⟩ := next_of_write h
    exact (portOut_serialUsable hs hwrite).of_portSide (by simp)
  | setPB p b | clrPB p b | setL | clrL =>
    obtain ⟨u, hwrite, rfl⟩ := next_of_write h
    rw [updateLatch_frame s _ _ u hwrite]
    exact hs
  | outbHL =>
    obtain rfl := Host.Outcome.next.inj h
    exact hs
  | _ => exact hs.of_portSide ((exec_portSide h).resolve_right (by simp [AccessesPort]))

/-! ## The invariant of the whole state -/

/-- What keeps the part and the ROM image keeps the invariant if RAM and the serial port stay in order. -/
theorem StateInv.of_chip (hs : StateInv s) (hchip : t.chip = s.chip) (hram : t.ram.wf (ramSize s.part) = true)
    (hserial : SerialUsable t) : StateInv t := by
  obtain ⟨-, hrom, -⟩ := stateInv_iff.mp hs
  obtain ⟨heqrom, heqpart, -⟩ := chip_eq_iff.mp hchip
  rw [stateInv_iff, heqrom, heqpart]
  exact ⟨hram, hrom, hserial⟩

theorem StateInv.serialUsable (hs : StateInv s) : SerialUsable s := by
  obtain ⟨-, -, hserial⟩ := stateInv_iff.mp hs
  exact hserial

theorem exec_stateInv {i : Instr} (hs : StateInv s) (h : exec i s = .next t) : StateInv t := by
  obtain ⟨words, -, hram⟩ := exec_ram h
  refine hs.of_chip (exec_chip h) ?_ (exec_serialUsable hs.serialUsable h)
  rw [hram]
  exact writeWords_wf words hs.ram_wf

/-! The parts of a cycle before the serial port write interrupt and count latches only (R340). -/

theorem tickDividerInterrupt_portSide_ram (s : State) (next : BitVec 19) :
    (tickDividerInterrupt next s).portSide = s.portSide ∧ (tickDividerInterrupt next s).ram = s.ram := by
  rw [tickDividerInterrupt_frame]
  exact ⟨rfl, rfl⟩

theorem tickPinInterrupts_portSide_ram (s : State) (now : EdgePins) :
    (tickPinInterrupts now s).portSide = s.portSide ∧ (tickPinInterrupts now s).ram = s.ram := by
  rw [tickPinInterrupts_frame]
  exact ⟨rfl, rfl⟩

theorem tickCountPulses_portSide_ram (s : State) (next : BitVec 19) (now : EdgePins) :
    (tickCountPulses next now s).portSide = s.portSide ∧ (tickCountPulses next now s).ram = s.ram := ⟨rfl, rfl⟩

theorem SerialOnly.ram (h : SerialOnly s t) : t.ram = s.ram := by
  rw [h.frame]
  simp

/-- A cycle is the serial port's own, from a state with the same port side and RAM. -/
theorem exists_serialOnly_tick_eq (s : State) :
    ∃ u v, u.portSide = s.portSide ∧ u.ram = s.ram ∧ SerialOnly u v ∧
      tick s = (v.setDivider (s.divider + 1#19)).setPrev (edgePins s) := by
  refine ⟨_, _, ?_, ?_, serialTick_serialOnly _ _ _ _, rfl⟩
  · rw [(tickCountPulses_portSide_ram _ _ _).1, (tickPinInterrupts_portSide_ram _ _).1,
      (tickDividerInterrupt_portSide_ram _ _).1]
  · rw [(tickCountPulses_portSide_ram _ _ _).2, (tickPinInterrupts_portSide_ram _ _).2,
      (tickDividerInterrupt_portSide_ram _ _).2]

theorem tick_stateInv (hs : StateInv s) : StateInv (tick s) := by
  obtain ⟨u, v, hside, hram, hserial, htick⟩ := exists_serialOnly_tick_eq s
  refine hs.of_chip (tick_chip s) ?_ ?_
  · rw [htick, State.setPrev_ram, State.setDivider_ram, hserial.ram, hram]
    exact hs.ram_wf
  · have hv : SerialUsable v := (hs.serialUsable.of_portSide hside).of_serialOnly hserial
    rw [htick]
    exact hv

theorem clearCount_portSide_ram (s : State) (ch : Channel) :
    (clearCount ch s).portSide = s.portSide ∧ (clearCount ch s).ram = s.ram := by
  cases ch <;> exact ⟨rfl, rfl⟩

theorem countOperation_stateInv (ch : Channel) (hs : StateInv s) : StateInv (countOperation ch s) := by
  refine hs.of_chip (countOperation_chip s ch) ?_ (hs.serialUsable.of_portSide ?_)
  · rw [countOperation_frame, State.setIntl_ram, (clearCount_portSide_ram _ ch).2, State.setRam_ram]
    exact writeTriple_wf s _ _ hs.ram_wf
  · rw [countOperation_frame, State.setIntl_portSide, (clearCount_portSide_ram _ ch).1, State.setRam_portSide]

theorem acceptInterrupt_stateInv (f : Factor) (hs : StateInv s) : StateInv (acceptInterrupt f s) := by
  refine hs.of_chip (acceptInterrupt_chip s f) ?_ (hs.serialUsable.of_portSide ?_)
  · rw [acceptInterrupt_frame]
    exact stackSave_wf s _ _ hs.ram_wf
  · rw [acceptInterrupt_frame]
    simp

theorem decisionPoint_stateInv (hs : StateInv s) (h : decisionPoint s = .next t) : StateInv t := by
  obtain ⟨-, rfl⟩ | ⟨f, -, -, rfl⟩ := decisionPoint_next h
  · exact hs
  · exact tick_stateInv (tick_stateInv (acceptInterrupt_stateInv f hs))

theorem nextEnv_stateInv (hs : StateInv s) : StateInv (nextEnv s) := by
  refine hs.of_chip (nextEnv_chip s) ?_ (hs.serialUsable.of_portSide ?_)
  · rw [nextEnv_frame]
    exact hs.ram_wf
  · rw [nextEnv_frame]
    rfl

/-! The initialization operation leaves the port disabled (R402). -/

theorem serialUsable_of_disabled (h : t.cmds.cmd1F = 0x0#4) : SerialUsable t := by
  intro he
  rw [h] at he
  cases he

theorem resetMachine_stateInv (hs : StateInv s) : StateInv (resetMachine s) :=
  hs.of_chip (resetMachine_chip s) hs.ram_wf (serialUsable_of_disabled rfl)

theorem powerUpMachine_stateInv (hs : StateInv s) : StateInv (powerUpMachine s) :=
  hs.of_chip (powerUpMachine_chip s) (freeRam_wf _ _ _ (Nat.le_refl _)) (serialUsable_of_disabled rfl)

theorem abandonStep_stateInv (hs : StateInv s) : StateInv (abandonStep s) := by
  obtain h | ⟨i, u, -, -, -, h⟩ := abandonStep_cases s
  · rw [h]
    exact powerUpMachine_stateInv hs
  · refine hs.of_chip (abandonStep_chip s) ?_ ?_
    · rw [h]
      exact freeWords_wf (s.setFreeCount (afterInstruction (instrCycles i) u).freeCount) _ hs.ram_wf
    · rw [h]
      exact serialUsable_of_disabled rfl

/-- Settles O59: each of the three resets, and an instruction with its cycles, count operations and acceptance. -/
theorem stepKeepsInvariant : Obligations.StepKeepsInvariant := by
  unfold Obligations.StepKeepsInvariant
  intro s t hs h
  obtain ⟨-, rfl⟩ | ⟨-, rfl⟩ | ⟨-, rfl⟩ | ⟨-, i, u, v, -, hexec, hdecide, rfl⟩ := step_next h
  · exact nextEnv_stateInv (resetMachine_stateInv hs)
  · exact nextEnv_stateInv (abandonStep_stateInv hs)
  · exact nextEnv_stateInv (powerUpMachine_stateInv hs)
  · have hafter : StateInv (afterInstruction (instrCycles i) u) :=
      afterInstruction_induction StateInv (fun _ => tick_stateInv) (fun ch _ => countOperation_stateInv ch) _
        (exec_stateInv hs hexec)
    exact nextEnv_stateInv (decisionPoint_stateInv hafter hdecide)

end Sys2Proof.Machine
end

section
/-! The decoder and the encoder undo each other: the fields of a byte, what the decoder can answer, and each group of the
opcode map in both directions. -/

namespace Sys2Proof

variable {b1 b2 : Byte} {bytes rest : List Byte} {i : Instr}

/-! ## The fields of a byte (R113) -/

theorem exists_eq_append {m n : Nat} (x : BitVec (m + n)) : ∃ (h : BitVec m) (l : BitVec n), x = h ++ l :=
  ⟨_, _, BitVec.extractLsb'_append_extractLsb'.symm⟩

theorem eq_ofNat_of_toNat_eq {w n : Nat} {x : BitVec w} (h : x.toNat = n) : x = BitVec.ofNat w n := by
  rw [← h, BitVec.ofNat_toNat, BitVec.setWidth_eq]

@[simp] theorem hiNibble_append (h l : Nibble) : hiNibble (h ++ l) = h := BitVec.extractLsb'_append_eq_left

@[simp] theorem loNibble_append (h l : Nibble) : loNibble (h ++ l) = l := BitVec.extractLsb'_append_eq_right

/-- Formats F4 and F9: two bits that select, six bits of a field. -/
theorem tagged_append (t : BitVec 2) (r : BitVec 6) :
    (t ++ r).extractLsb' 6 2 = t ∧ (t ++ r).extractLsb' 0 6 = r :=
  ⟨BitVec.extractLsb'_append_eq_left, BitVec.extractLsb'_append_eq_right⟩

/-- Format F8: two bits that select, two bits of a bit number, a low nibble. -/
theorem bitFields_append (t b : BitVec 2) (y : Nibble) :
    (t ++ b ++ y).extractLsb' 6 2 = t ∧ (t ++ b ++ y).extractLsb' 4 2 = b ∧ loNibble (t ++ b ++ y) = y := by
  refine ⟨?_, ?_, loNibble_append _ y⟩
  · rw [BitVec.extractLsb'_append_eq_of_le (by decide)]
    exact BitVec.extractLsb'_append_eq_left
  · rw [BitVec.extractLsb'_append_eq_of_le (by decide)]
    exact BitVec.extractLsb'_append_eq_right

/-- Every byte has the fields of format F8. -/
theorem exists_eq_bitFields (b2 : Byte) : ∃ (t b : BitVec 2) (y : Nibble), b2 = t ++ b ++ y := by
  obtain ⟨c, y, rfl⟩ := exists_eq_append (m := 4) (n := 4) b2
  obtain ⟨t, b, rfl⟩ := exists_eq_append (m := 2) (n := 2) c
  exact ⟨t, b, y, rfl⟩

/-- The four values of the field `tt` of R113. -/
theorem selector_cases (t : BitVec 2) : t = 0b00#2 ∨ t = 0b01#2 ∨ t = 0b10#2 ∨ t = 0b11#2 := by
  decide +revert

/-! ## What the decoder can answer (R111, R112) -/

/-- The set of R112. -/
theorem isTwoByte_iff (b1 : Byte) :
    isTwoByte b1 = true ↔
      (0x20 ≤ b1.toNat ∧ b1.toNat ≤ 0x29) ∨ (0x2C ≤ b1.toNat ∧ b1.toNat ≤ 0x2F) ∨ b1 = 0x36 ∨
        (0x38 ≤ b1.toNat ∧ b1.toNat ≤ 0x3F) ∨ (0x60 ≤ b1.toNat ∧ b1.toNat ≤ 0x6F) := by
  decide +revert

/-- The one-byte instruction of a first byte, without or with a field. -/
def decodeOne (b1 : Byte) : Option Instr := (decodeFixed b1).or (decodeField b1)

theorem decode_oneByte (hfirst : isTwoByte b1 = false) (rest : List Byte) :
    decode (b1 :: rest) = (decodeOne b1).elim (.error (.reservedFirst b1)) fun i => .ok (i, rest) := by
  cases hfixed : decodeFixed b1 <;> cases hfield : decodeField b1 <;> simp [decode, decodeOne, hfirst, hfixed, hfield]

theorem decode_twoByte (hfirst : isTwoByte b1 = true) (b2 : Byte) (rest : List Byte) :
    decode (b1 :: b2 :: rest) =
      (decodeTwo b1 b2).elim (.error (.reservedSecond b1 b2)) fun i => .ok (i, rest) := by
  cases htwo : decodeTwo b1 b2 <;> simp [decode, hfirst, htwo]

/-- What decoding answers is the one-byte instruction of the first byte or the two-byte one of the first two. -/
theorem decode_eq_ok_iff :
    decode bytes = .ok (i, rest) ↔
      (∃ b1, bytes = b1 :: rest ∧ isTwoByte b1 = false ∧ decodeOne b1 = some i) ∨
        ∃ b1 b2, bytes = b1 :: b2 :: rest ∧ isTwoByte b1 = true ∧ decodeTwo b1 b2 = some i := by
  constructor
  · intro h
    obtain _ | ⟨b1, tail⟩ := bytes
    · cases h
    cases hfirst : isTwoByte b1
    · rw [decode_oneByte hfirst] at h
      cases hone : decodeOne b1 <;> rw [hone] at h <;> cases h
      exact .inl ⟨b1, rfl, hfirst, hone⟩
    · obtain _ | ⟨b2, tail⟩ := tail
      · simp [decode, hfirst] at h
      rw [decode_twoByte hfirst] at h
      cases htwo : decodeTwo b1 b2 <;> rw [htwo] at h <;> cases h
      exact .inr ⟨b1, b2, rfl, hfirst, htwo⟩
  · rintro (⟨b1, rfl, hfirst, hone⟩ | ⟨b1, b2, rfl, hfirst, htwo⟩)
    · rw [decode_oneByte hfirst, hone]
      rfl
    · rw [decode_twoByte hfirst, htwo]
      rfl

/-- Two bytes begin no instruction where the part of the decoder that the first byte selects answers none. -/
theorem decode_error_iff :
    (∃ e, decode (b1 :: b2 :: rest) = .error e) ↔
      (isTwoByte b1 = false ∧ decodeOne b1 = none) ∨ (isTwoByte b1 = true ∧ decodeTwo b1 b2 = none) := by
  cases hfirst : isTwoByte b1
  · rw [decode_oneByte hfirst]
    cases decodeOne b1 <;> simp
  · rw [decode_twoByte hfirst]
    cases decodeTwo b1 b2 <;> simp

/-! ## From an instruction to its bytes and back -/

theorem decode_of_oneByte (h : isTwoByte b1 = false ∧ decodeOne b1 = some i) (rest : List Byte) :
    decode ([b1] ++ rest) = .ok (i, rest) :=
  decode_eq_ok_iff.mpr (.inl ⟨b1, rfl, h⟩)

theorem decode_of_twoByte (hfirst : isTwoByte b1 = true) (h : decodeTwo b1 b2 = some i) (rest : List Byte) :
    decode ([b1, b2] ++ rest) = .ok (i, rest) :=
  decode_eq_ok_iff.mpr (.inr ⟨b1, b2, rfl, hfirst, h⟩)

/-- Outside the first bytes 28 to 3F, only a call and a branch have two bytes (R130). -/
theorem decodeTwo_callOrBranch (hfirst : b1.toNat < 0x28 ∨ 0x40 ≤ b1.toNat) (b2 : Byte) :
    decodeTwo b1 b2 =
      if b1.toNat / 8 = 4 then some (.call (b1.extractLsb' 0 3 ++ b2))
      else if b1.toNat / 16 = 6 then some (.bs (loNibble b1 ++ b2))
      else none := by
  unfold decodeTwo
  split
  case h_16 => rfl
  all_goals omega

theorem decodeTwo_call (x : BitVec 3) (b2 : Byte) : decodeTwo (0b00100#5 ++ x) b2 = some (.call (x ++ b2)) := by
  have hcall : (0b00100#5 ++ x).toNat / 8 = 4 := by decide +revert
  rw [decodeTwo_callOrBranch (by omega), if_pos hcall, BitVec.extractLsb'_append_eq_right]

theorem decodeTwo_bs (x : Nibble) (b2 : Byte) : decodeTwo (0x6#4 ++ x) b2 = some (.bs (x ++ b2)) := by
  have hbranch : (0x6#4 ++ x).toNat / 16 = 6 := by decide +revert
  rw [decodeTwo_callOrBranch (by omega), if_neg (by omega), if_pos hbranch, loNibble_append]

/-- Settles O32: by the formats of R113, what the decoder reads from each field of an encoding is the operand. -/
theorem decodeEncodeRoundTrip : Obligations.DecodeEncodeRoundTrip := by
  unfold Obligations.DecodeEncodeRoundTrip
  intro i rest
  cases i with
  -- F2, F3, F4: one byte with a field
  | ldAK k | ldHK k | ldLK k | stKHLInc k | cmprAK k | setHLB b | clrHLB b | testHLB b | testAB b | bss d | calls n =>
    exact decode_of_oneByte (by decide +revert) rest
  -- F6
  | outKP k p | stKY k y | cmprYK y k | addYK y k =>
    exact decode_of_twoByte rfl (by simp [decodeTwo]) rest
  -- F9, F7, F8, F10: the groups OP36 to OP3B
  | clrIL r | eiclrIL r | diclrIL r =>
    exact decode_of_twoByte rfl (by simp [decodeTwo, decode36, tagged_append]) rest
  | addAK k | subrAK k | orAK k | andAK k | addHLK k | subrHLK k | orHLK k | andHLK k | addLK k | cmprLK k | addHK k
  | cmprHK k =>
    exact decode_of_twoByte rfl (by simp [decodeTwo, decode38]) rest
  | setYB y b | clrYB y b | testYB y b | testpYB y b =>
    exact decode_of_twoByte rfl (by simp [decodeTwo, decode39, bitFields_append]) rest
  | inPA p | inPHL p | outAP p | outHLP p =>
    exact decode_of_twoByte rfl (by decide +revert) rest
  | setPB p b | clrPB p b | testPB p b | testpPB p b =>
    exact decode_of_twoByte rfl (by simp [decodeTwo, decode3B, bitFields_append]) rest
  -- F11, F12
  | bs a =>
    have hfirst : ∀ x : Nibble, isTwoByte (0x6#4 ++ x) = true := by decide
    exact decode_of_twoByte (hfirst _) (by rw [decodeTwo_bs, BitVec.extractLsb'_append_extractLsb']) rest
  | call a =>
    have hfirst : ∀ x : BitVec 3, isTwoByte (0b00100#5 ++ x) = true := by decide
    exact decode_of_twoByte (hfirst _) (by rw [decodeTwo_call, BitVec.extractLsb'_append_extractLsb']) rest
  -- F1, F5: no field, or a whole byte
  | _ => rfl

/-! ## From bytes to an instruction and back (R140) -/

theorem encode_of_decodeFixed (h : decodeFixed b1 = some i) : encode i = [b1] := by
  unfold decodeFixed at h
  split at h
  case h_41 => cases h
  all_goals
    next hb =>
      obtain rfl := eq_ofNat_of_toNat_eq hb
      cases h
      rfl

theorem encode_of_decodeField (h : decodeField b1 = some i) : encode i = [b1] := by
  obtain ⟨c, x, rfl⟩ := exists_eq_append (m := 4) (n := 4) b1
  simp only [decodeField, hiNibble_append, loNibble_append] at h
  split at h
  case h_12 => cases h
  all_goals
    rename_i hc
    obtain rfl := eq_ofNat_of_toNat_eq hc
  case h_2 =>
    split at h
    all_goals
      cases h
      decide +revert
  all_goals
    cases h
    decide +revert

theorem encode_of_decodeOne (h : decodeOne b1 = some i) : encode i = [b1] := by
  obtain hfixed | ⟨-, hfield⟩ := Option.or_eq_some_iff.mp h
  · exact encode_of_decodeFixed hfixed
  · exact encode_of_decodeField hfield

theorem encode_of_decode36 (h : decode36 b2 = some i) : encode i = [0x36#8, b2] := by
  obtain ⟨t, r, rfl⟩ := exists_eq_append (m := 2) (n := 6) b2
  simp only [decode36, tagged_append] at h
  split at h
  case h_4 => cases h
  all_goals
    next ht =>
      obtain rfl := eq_ofNat_of_toNat_eq ht
      cases h
      rfl

theorem encode_of_decode38 (h : decode38 b2 = some i) : encode i = [0x38#8, b2] := by
  obtain ⟨c, k, rfl⟩ := exists_eq_append (m := 4) (n := 4) b2
  simp only [decode38, hiNibble_append, loNibble_append] at h
  split at h
  case h_13 => cases h
  all_goals
    next hc =>
      obtain rfl := eq_ofNat_of_toNat_eq hc
      cases h
      rfl

theorem encode_decode39 (b2 : Byte) : encode (decode39 b2) = [0x39#8, b2] := by
  obtain ⟨t, b, y, rfl⟩ := exists_eq_bitFields b2
  obtain rfl | rfl | rfl | rfl := selector_cases t
  all_goals simp [decode39, bitFields_append, encode]

theorem encode_of_decode3A (h : decode3A b2 = some i) : encode i = [0x3A#8, b2] := by
  obtain ⟨c, p, rfl⟩ := exists_eq_append (m := 4) (n := 4) b2
  simp only [decode3A, hiNibble_append, loNibble_append] at h
  split at h
  case h_7 => cases h
  all_goals
    next hc =>
      obtain rfl := eq_ofNat_of_toNat_eq hc
      cases h
      decide +revert

theorem encode_decode3B (b2 : Byte) : encode (decode3B b2) = [0x3B#8, b2] := by
  obtain ⟨t, b, p, rfl⟩ := exists_eq_bitFields b2
  obtain rfl | rfl | rfl | rfl := selector_cases t
  all_goals simp [decode3B, bitFields_append, encode]

theorem encode_call (hfirst : b1.toNat / 8 = 4) (b2 : Byte) :
    encode (.call (b1.extractLsb' 0 3 ++ b2)) = [b1, b2] := by
  have hbits : ∀ b : Byte, b.toNat / 8 = 4 → 0b00100#5 ++ b.extractLsb' 0 3 = b := by decide
  rw [encode, BitVec.extractLsb'_append_eq_left, BitVec.extractLsb'_append_eq_right, hbits b1 hfirst]

theorem encode_bs (hfirst : b1.toNat / 16 = 6) (b2 : Byte) : encode (.bs (loNibble b1 ++ b2)) = [b1, b2] := by
  have hbits : ∀ b : Byte, b.toNat / 16 = 6 → 0x6#4 ++ loNibble b = b := by decide
  rw [encode, BitVec.extractLsb'_append_eq_left, BitVec.extractLsb'_append_eq_right, hbits b1 hfirst]

theorem encode_of_decodeTwo (h : decodeTwo b1 b2 = some i) : encode i = [b1, b2] := by
  simp only [decodeTwo] at h
  split at h
  case h_16 =>
    split at h
    · next hfirst =>
      cases h
      exact encode_call hfirst b2
    · split at h
      · next hfirst =>
        cases h
        exact encode_bs hfirst b2
      · cases h
  all_goals
    rename_i hb
    obtain rfl := eq_ofNat_of_toNat_eq hb
  case h_7 => exact encode_of_decode36 h
  case h_8 => exact encode_of_decode38 h
  case h_10 => exact encode_of_decode3A h
  all_goals cases h
  case h_9 => exact encode_decode39 b2
  case h_11 => exact encode_decode3B b2
  case h_3 | h_4 | h_5 | h_6 =>
    obtain ⟨c, x, rfl⟩ := exists_eq_append (m := 4) (n := 4) b2
    simp [encode]
  all_goals rfl

/-- Settles O33: each part of the decoder answers only for the bytes that the encoder gives. -/
theorem encodeDecodeRoundTrip : Obligations.EncodeDecodeRoundTrip := by
  unfold Obligations.EncodeDecodeRoundTrip
  intro bytes i rest h
  obtain ⟨b1, rfl, -, hone⟩ | ⟨b1, b2, rfl, -, htwo⟩ := decode_eq_ok_iff.mp h
  · rw [encode_of_decodeOne hone]
    rfl
  · rw [encode_of_decodeTwo htwo]
    rfl

/-! ## The reserved encodings (R140) -/

theorem decodeOne_eq_none_iff (h : isTwoByte b1 = false) : decodeOne b1 = none ↔ b1 = 0x1C#8 := by
  decide +revert

theorem decode36_eq_none_iff (b2 : Byte) : decode36 b2 = none ↔ b2.toNat < 0x40 := by
  decide +revert

theorem decode38_eq_none_iff (b2 : Byte) : decode38 b2 = none ↔ b2.toNat / 16 ∈ [0xA, 0xB, 0xE, 0xF] := by
  decide +revert

theorem decode3A_eq_none_iff (b2 : Byte) :
    decode3A b2 = none ↔ b2.toNat / 16 ∈ [0x0, 0x1, 0x3, 0x4, 0x5, 0x7, 0x9, 0xB, 0xD, 0xF] := by
  decide +revert

/-- Of the two-byte instructions only the groups OP36, OP38 and OP3A have blank codes. -/
theorem decodeTwo_eq_none_iff (hfirst : isTwoByte b1 = true) (b2 : Byte) :
    decodeTwo b1 b2 = none ↔
      (b1 = 0x36#8 ∧ decode36 b2 = none) ∨ (b1 = 0x38#8 ∧ decode38 b2 = none) ∨
        (b1 = 0x3A#8 ∧ decode3A b2 = none) := by
  simp only [decodeTwo]
  split
  case h_16 =>
    have hlong : b1.toNat / 8 = 4 ∨ b1.toNat / 16 = 6 := by
      rw [isTwoByte_iff] at hfirst
      grind
    have hgroups : b1 ≠ 0x36#8 ∧ b1 ≠ 0x38#8 ∧ b1 ≠ 0x3A#8 := by bv_omega
    obtain hcall | hbranch := hlong
    · simp [hcall, hgroups]
    · have hcall : b1.toNat / 8 ≠ 4 := by omega
      simp [hcall, hbranch, hgroups]
  all_goals
    next hb =>
      obtain rfl := eq_ofNat_of_toNat_eq hb
      simp

/-- Settles O34: a one-byte code is blank at 1C only, a two-byte one in three of the groups. -/
theorem reservedEncodingsAreExactlyListed : Obligations.ReservedEncodingsAreExactlyListed := by
  unfold Obligations.ReservedEncodingsAreExactlyListed
  intro b1 b2 rest
  rw [decode_error_iff, ← decode36_eq_none_iff, ← decode38_eq_none_iff, ← decode3A_eq_none_iff]
  cases hfirst : isTwoByte b1
  · have hgroups : b1 ≠ 0x36#8 ∧ b1 ≠ 0x38#8 ∧ b1 ≠ 0x3A#8 := by decide +revert
    simp [decodeOne_eq_none_iff hfirst, hgroups]
  · have hblank : b1 ≠ 0x1C#8 := by decide +revert
    simp [decodeTwo_eq_none_iff hfirst, hblank]

/-! ## The length of an instruction (R110, R112, R421) -/

theorem instrLength_of_decodeOne (h : decodeOne b1 = some i) : instrLength i = 1 := by
  rw [← Machine.encode_length, encode_of_decodeOne h]
  rfl

theorem instrLength_of_decodeTwo (h : decodeTwo b1 b2 = some i) : instrLength i = 2 := by
  rw [← Machine.encode_length, encode_of_decodeTwo h]
  rfl

theorem instrCycles_of_twoByte (h : instrLength i = 2) : Machine.instrCycles i = 2 := by
  cases i <;> simp [instrLength, Machine.instrCycles] at h ⊢

/-- Settles O35: a first byte that announces a second one is read with it, every other one alone. -/
theorem firstByteGivesLength : Obligations.FirstByteGivesLength := by
  unfold Obligations.FirstByteGivesLength
  intro b1 bytes rest i h
  rw [← isTwoByte_iff, Machine.encode_length]
  obtain ⟨c1, hbytes, hfirst, hone⟩ | ⟨c1, c2, hbytes, hfirst, htwo⟩ := decode_eq_ok_iff.mp h <;> cases hbytes
  · simp [hfirst, instrLength_of_decodeOne hone]
  · have hlength := instrLength_of_decodeTwo htwo
    simp [hfirst, hlength, instrCycles_of_twoByte hlength]

/-- Settles O36: each word is the encoding of its instruction. -/
theorem sampleWordsDecode : Obligations.SampleWordsDecode :=
  ⟨decodeEncodeRoundTrip (.stKY 0xA 0x3) [], decodeEncodeRoundTrip (.cmprYK 0x2 0x5) [],
    decodeEncodeRoundTrip (.addHK 0xF) [], decodeEncodeRoundTrip (.andHLK 0x3) [],
    decodeEncodeRoundTrip (.clrYB 0x3 1) [], decodeEncodeRoundTrip (.clrIL 0b011111) [],
    decodeEncodeRoundTrip (.outAP 0x19) [], decodeEncodeRoundTrip (.call 0x345) [],
    decodeEncodeRoundTrip (.bss 5) [], decodeEncodeRoundTrip (.calls 3) []⟩

end Sys2Proof
end

section
/-! One step of the running machine: fetch, instruction, and what follows it, by the outcome of each part. -/

namespace Sys2Proof.Machine

variable {s t u : State} {i : Instr}

/-! ## The fetch (R111, R140) -/

theorem fetch_of_decode {rest : List Byte} (h : decode (fetchBytes s) = .ok (i, rest)) : fetch s = .ok i := by
  simp [fetch, h]

theorem fetch_of_decode_error {e : DecodeError} (h : decode (fetchBytes s) = .error e) : fetch s = .error e := by
  simp [fetch, h]

/-! ## The decision point (R309, R310, R316) -/

theorem decisionPoint_of_none (h : pendingFactor s = none) : decisionPoint s = .next s := by
  simp [decisionPoint, h]

theorem decisionPoint_of_accepted {f : Factor} (h : pendingFactor s = some f) (hlevel : spw s ≠ forbiddenLevel) :
    decisionPoint s = .next (tick (tick (acceptInterrupt f s))) := by
  simp [decisionPoint, h, hlevel, ticks]

theorem decisionPoint_of_levelF {f : Factor} (h : pendingFactor s = some f) (hlevel : spw s = forbiddenLevel) :
    decisionPoint s = .refused .stackLevelF := by
  simp [decisionPoint, h, hlevel]

/-! ## The step (R315) -/

theorem step_of_fetch_error {e : DecodeError} (hrun : s.env.event = .run) (h : fetch s = .error e) :
    step s = .refused (fetchRefusal s) := by
  simp [step, hrun, h]

theorem step_of_exec_refused {r : Refusal} (hrun : s.env.event = .run) (hfetch : fetch s = .ok i)
    (h : exec i s = .refused r) : step s = .refused r := by
  simp [step, hrun, hfetch, h]

theorem step_of_exec_next (hrun : s.env.event = .run) (hfetch : fetch s = .ok i) (h : exec i s = .next t) :
    step s = completeStep (instrCycles i) t := by
  simp [step, hrun, hfetch, h]

theorem completeStep_of_next {n : Nat} (h : decisionPoint (afterInstruction n t) = .next u) :
    completeStep n t = .next (nextEnv u) := by
  simp [completeStep, h]

theorem completeStep_of_refused {n : Nat} {r : Refusal} (h : decisionPoint (afterInstruction n t) = .refused r) :
    completeStep n t = .refused r := by
  simp [completeStep, h]

/-- Settles O55: by the outcome of the fetch, of the instruction and of the decision point. -/
theorem stepRunsDecodedInstruction : Obligations.StepRunsDecodedInstruction := by
  unfold Obligations.StepRunsDecodedInstruction
  refine ⟨fun s i rest hrun hdecode => ⟨fun r hexec => ?_, fun t u hexec hu => ?_⟩, fun s e hrun hdecode => ?_⟩
  · exact step_of_exec_refused hrun (fetch_of_decode hdecode) hexec
  · subst hu
    rw [step_of_exec_next hrun (fetch_of_decode hdecode) hexec]
    refine ⟨fun hp => ?_, fun f hp hlevel => ?_, fun f hp hlevel => ?_⟩
    · exact completeStep_of_next (decisionPoint_of_none hp)
    · exact completeStep_of_next (decisionPoint_of_accepted hp hlevel)
    · exact completeStep_of_refused (decisionPoint_of_levelF hp hlevel)
  · exact step_of_fetch_error hrun (fetch_of_decode_error hdecode)

end Sys2Proof.Machine
end

section
/-! The move instructions: what each leaves as one equation for the whole next state, and the words of RAM it stores. -/

namespace Sys2Proof.Machine

variable {s : State}

/-! ## The encoding of an instruction (R110, R120-R128, R421) -/

theorem encodes_encode (i : Instr) : Encodes (encode i) i (instrCycles i) :=
  ⟨decodeEncodeRoundTrip i, rfl⟩

/-! ## The end of an instruction as one equation (R23, R150, R160, R161) -/

section WholeState

variable (s : State) (len : RomAddr)

theorem advance_loadAc (v : Nibble) :
    advance len (loadAc v s) = { s with pc := s.pc + len, ac := v, zf := decide (v = 0), sf := true } := rfl

theorem advance_setSf (b : Bool) : advance len (s.setSf b) = { s with pc := s.pc + len, sf := b } := rfl

theorem add4_one (v : Nibble) : add4 v 1#4 false = (v + 1, decide (v = 0xF)) := by
  decide +revert

theorem add_one_eq_zero_iff (v : Nibble) : v + 1 = 0 ↔ v = 0xF := by
  decide +revert

theorem sub_one_eq_zero_iff (v : Nibble) : v - 1 = 0 ↔ v = 1 := by
  decide +revert

theorem one_le_toNat_iff (v : Nibble) : (1#4).toNat ≤ v.toNat ↔ v ≠ 0 := by
  decide +revert

/-- Note 3: an increment of L carries and gives zero at the same value of L. -/
theorem advance_incrementL :
    advance len (incrementL s) =
      { s with pc := s.pc + len, lr := s.lr + 1, zf := decide (s.lr = 0xF), sf := decide (s.lr ≠ 0xF) } := by
  have hzero : decide (s.lr + 1 = 0#4) = decide (s.lr = 0xF) := decide_eq_decide.mpr (add_one_eq_zero_iff s.lr)
  simp only [incrementL, add4_one, sumFlags_eq]
  rw [hzero, ← decide_not]
  rfl

/-- Note 3: a decrement of L gives zero at L = 1 and borrows at L = 0. -/
theorem advance_decrementL :
    advance len (decrementL s) =
      { s with pc := s.pc + len, lr := s.lr - 1, zf := decide (s.lr = 1), sf := decide (s.lr ≠ 0) } := by
  have hzero : decide (s.lr - 1#4 = 0#4) = decide (s.lr = 1) := decide_eq_decide.mpr (sub_one_eq_zero_iff s.lr)
  have hborrow : decide ((1#4).toNat ≤ s.lr.toNat) = decide (s.lr ≠ 0) :=
    decide_eq_decide.mpr (one_le_toNat_iff s.lr)
  simp only [decrementL, sub4_true, differenceFlags_eq]
  rw [hzero, hborrow]
  rfl

end WholeState

/-! ## The words of RAM after a store (R76, R77) -/

theorem memRead_memWrite_self (s : State) (a : RamAddr) (v : Nibble) : memRead (memWrite s a v) a = v := by
  rw [memRead_memWrite, if_pos rfl]

theorem memRead_memWrite_of_ne {a b : RamAddr} (h : ramIndex s b ≠ ramIndex s a) (v : Nibble) :
    memRead (memWrite s a v) b = memRead s b := by
  rw [memRead_memWrite, if_neg h]

theorem wordStored_memWrite (s : State) (a : RamAddr) (v : Nibble) : WordStored s (memWrite s a v).ram a v :=
  fun b => memRead_memWrite s a b v

/-- A word that answers to none of the stored addresses reads as before. -/
theorem memRead_writeWords_of_ne {words : List (RamAddr × Nibble)} {a : RamAddr}
    (h : ∀ w ∈ words, ramIndex s a ≠ ramIndex s w.1) : memRead (writeWords words s) a = memRead s a := by
  induction words generalizing s with
  | nil => rfl
  | cons w rest ih =>
    obtain ⟨hw, hrest⟩ := List.forall_mem_cons.mp h
    exact (ih (s := memWrite s w.1 w.2) hrest).trans (memRead_memWrite_of_ne hw w.2)

theorem writeWords_frame (words : List (RamAddr × Nibble)) (s : State) :
    writeWords words s = s.setRam (writeWords words s).ram := by
  induction words generalizing s with
  | nil => rfl
  | cons w rest ih => exact ih (memWrite s w.1 w.2)

/-- Storing words gives a new RAM that differs in those words only, and changes nothing else. -/
theorem exists_writeWords_eq (words : List (RamAddr × Nibble)) (s : State) :
    ∃ m, writeWords words s = s.setRam m ∧ OnlyWords s m (words.map Prod.fst) := by
  refine ⟨_, writeWords_frame words s, fun a h => ?_⟩
  rw [← writeWords_frame]
  exact memRead_writeWords_of_ne fun w hw => h w.1 (List.mem_map_of_mem hw)

theorem exists_writeTriple_eq (s : State) (base : RamAddr) (v : RomAddr) :
    ∃ m, writeTriple s base v = s.setRam m ∧ OnlyWords s m [base, base + 1#8, base + 2#8] :=
  exists_writeWords_eq [(base, _), (base + 1#8, _), (base + 2#8, _)] s

/-- Two words stored at different addresses both hold what was stored. -/
theorem exists_writePair_eq (s : State) {a b : RamAddr} (h : ramIndex s a ≠ ramIndex s b) (v w : Nibble) :
    ∃ m, memWrite (memWrite s a v) b w = s.setRam m ∧ memRead (s.setRam m) a = v ∧ memRead (s.setRam m) b = w ∧
      OnlyWords s m [a, b] := by
  obtain ⟨m, hm, honly⟩ := exists_writeWords_eq [(a, v), (b, w)] s
  have hpair : memWrite (memWrite s a v) b w = s.setRam m := hm
  refine ⟨m, hpair, ?_, ?_, honly⟩
  · rw [← hpair, memRead_memWrite_of_ne (s := memWrite s a v) h, memRead_memWrite_self]
  · rw [← hpair, memRead_memWrite_self]

/-! ## The data counter (R40, R88 (f), R158) -/

theorem triple_append (v : RomAddr) : v.extractLsb' 8 4 ++ v.extractLsb' 4 4 ++ v.extractLsb' 0 4 = v := by
  have hhigh : v.extractLsb' 8 4 ++ v.extractLsb' 4 4 = v.extractLsb' 4 8 :=
    BitVec.extractLsb'_append_extractLsb'_eq_extractLsb' rfl
  rw [hhigh]
  exact BitVec.extractLsb'_append_extractLsb'

theorem dataCounter_eq (s : State) : dataCounter s = memRead s 0xFE ++ memRead s 0xFD ++ memRead s 0xFC := rfl

/-- The three words of DC are three different words on both chips, so DC holds what is written to it. -/
theorem dataCounter_writeTriple (s : State) (v : RomAddr) : dataCounter (writeTriple s dcAddr v) = v := by
  have h01 := ramIndex_ne_of_low s dcAddr (dcAddr + 1#8) (by decide)
  have h02 := ramIndex_ne_of_low s dcAddr (dcAddr + 2#8) (by decide)
  have h12 := ramIndex_ne_of_low s (dcAddr + 1#8) (dcAddr + 2#8) (by decide)
  simp only [dataCounter, readTriple, memRead_writeTriple s dcAddr _ v h01 h02 h12, h01.symm, h02.symm, h12.symm,
    if_true, if_false, triple_append]

/-- Counting DC up is the sum modulo 4096. -/
theorem romAddr_add_one (v : RomAddr) : v + 1#12 = BitVec.ofNat 12 ((v.toNat + 1) % 4096) := by
  apply BitVec.eq_of_toNat_eq
  simp

/-! ## The pair forms (R78 (e), R153, R172) -/

/-- The two words of a pair form are different words on both chips. -/
theorem ramIndex_addrPair_ne (s : State) (x : RamAddr) : ramIndex s (addrPair x) ≠ ramIndex s (addrPair x + 1#8) := by
  have hlow : ∀ a : RamAddr, a.extractLsb' 0 7 ≠ (a + 1#8).extractLsb' 0 7 := by decide
  exact ramIndex_ne_of_low s _ _ (hlow _)

/-! ## The move instructions -/

/-- Settles O1: the loads of A end in `loadAc`, those of H and L set SF after their registers. -/
theorem loadResults : Obligations.LoadResults := by
  unfold Obligations.LoadResults
  refine ⟨fun s => ?_, fun s x => ?_, fun s k => ?_, fun s x => ?_, fun s k => ?_, fun s k => ?_,
    ?_, ?_, ?_, ?_, ?_, ?_⟩
  · exact congrArg Host.Outcome.next (advance_loadAc s 1 (readHL s))
  · exact congrArg Host.Outcome.next (advance_loadAc s 2 (memRead s x))
  · exact congrArg Host.Outcome.next (advance_loadAc s 1 k)
  · exact congrArg Host.Outcome.next (advance_setSf _ 2 true)
  · exact congrArg Host.Outcome.next (advance_setSf (s.setHr k) 1 true)
  · exact congrArg Host.Outcome.next (advance_setSf (s.setLr k) 1 true)
  · exact encodes_encode .ldAHL
  · exact fun x => encodes_encode (.ldAX x)
  · exact fun k => encodes_encode (.ldAK k)
  · exact fun x => encodes_encode (.ldHLX x)
  · exact fun k => encodes_encode (.ldHK k)
  · exact fun k => encodes_encode (.ldLK k)

/-- Settles O2: DC is read as one address, and the three words counted up read back as its successor. -/
theorem romTableLoadResults : Obligations.RomTableLoadResults := by
  unfold Obligations.RomTableLoadResults
  refine ⟨fun s => ?_, fun s dc hdc => ?_, encodes_encode .ldlADC, encodes_encode .ldhADCInc⟩
  · exact congrArg Host.Outcome.next (advance_loadAc s 1 ((romRead s (dataCounter s)).extractLsb' 0 4))
  · obtain rfl : dc = dataCounter s := hdc
    obtain ⟨m, hm, honly⟩ := exists_writeTriple_eq s dcAddr (dataCounter s + 1#12)
    have hnext : exec .ldhADCInc s =
        .next (advance 1 (loadAc ((romRead s (dataCounter s)).extractLsb' 4 4) (s.setRam m))) := by
      rw [← hm]
      rfl
    refine ⟨m, hnext.trans (congrArg Host.Outcome.next (advance_loadAc (s.setRam m) 1 _)), ?_, honly⟩
    rw [← hm, ← dataCounter_eq, dataCounter_writeTriple, romAddr_add_one]

/-- Settles O3: each is one `memWrite`, at the address of its operand form. -/
theorem storeResults : Obligations.StoreResults := by
  unfold Obligations.StoreResults
  refine ⟨fun s => ?_, fun s x => ?_, fun s k y => ?_, ?_, ?_, ?_⟩
  · exact ⟨(writeHL s.ac s).ram, congrArg Host.Outcome.next (advance_setSf (writeHL s.ac s) 1 true),
      wordStored_memWrite s (addrHL s) s.ac⟩
  · exact ⟨(memWrite s x s.ac).ram, congrArg Host.Outcome.next (advance_setSf (memWrite s x s.ac) 2 true),
      wordStored_memWrite s x s.ac⟩
  · exact ⟨(memWrite s (addrY y) k).ram, congrArg Host.Outcome.next (advance_setSf (memWrite s (addrY y) k) 2 true),
      wordStored_memWrite s (addrY y) k⟩
  · exact encodes_encode .stAHL
  · exact fun x => encodes_encode (.stAX x)
  · exact fun k y => encodes_encode (.stKY k y)

/-- Settles O4: the word is stored before L steps, and the step of L alone gives the flags. -/
theorem storeAndStepResults : Obligations.StoreAndStepResults := by
  unfold Obligations.StoreAndStepResults
  refine ⟨fun s => ?_, fun s => ?_, fun s k => ?_, ?_, ?_, ?_⟩
  · exact ⟨(writeHL s.ac s).ram, congrArg Host.Outcome.next (advance_incrementL (writeHL s.ac s) 1),
      wordStored_memWrite s (addrHL s) s.ac⟩
  · exact ⟨(writeHL s.ac s).ram, congrArg Host.Outcome.next (advance_decrementL (writeHL s.ac s) 1),
      wordStored_memWrite s (addrHL s) s.ac⟩
  · exact ⟨(writeHL k s).ram, congrArg Host.Outcome.next (advance_incrementL (writeHL k s) 1),
      wordStored_memWrite s (addrHL s) k⟩
  · exact encodes_encode .stAHLInc
  · exact encodes_encode .stAHLDec
  · exact fun k => encodes_encode (.stKHLInc k)

/-- Settles O5: the exchange with EIR alone does not end in `loadAc`, which writes ZF. -/
theorem registerExchangeResults : Obligations.RegisterExchangeResults := by
  unfold Obligations.RegisterExchangeResults
  refine ⟨fun s => ?_, fun s => ?_, fun s => ?_, fun s => ?_, fun s => ?_, ?_, ?_, ?_, ?_, ?_⟩
  · exact congrArg Host.Outcome.next (advance_loadAc s 1 s.hr)
  · exact congrArg Host.Outcome.next (advance_loadAc s 1 s.lr)
  · exact congrArg Host.Outcome.next (advance_loadAc (s.setHr s.ac) 1 s.hr)
  · exact congrArg Host.Outcome.next (advance_loadAc (s.setLr s.ac) 1 s.lr)
  · exact congrArg Host.Outcome.next (advance_setSf ((s.setAc s.eir).setEir s.ac) 1 true)
  · exact encodes_encode .movHA
  · exact encodes_encode .movLA
  · exact encodes_encode .xchAH
  · exact encodes_encode .xchAL
  · exact encodes_encode .xchAEIR

/-- Settles O6: the registers take the words read before the stores; a pair form stores two different words. -/
theorem memoryExchangeResults : Obligations.MemoryExchangeResults := by
  unfold Obligations.MemoryExchangeResults
  refine ⟨fun s => ?_, fun s x => ?_, fun s x => ?_, ?_, ?_, ?_⟩
  · exact ⟨(writeHL s.ac s).ram, congrArg Host.Outcome.next (advance_loadAc (writeHL s.ac s) 1 (readHL s)),
      wordStored_memWrite s (addrHL s) s.ac⟩
  · exact ⟨(memWrite s x s.ac).ram, congrArg Host.Outcome.next (advance_loadAc (memWrite s x s.ac) 2 (memRead s x)),
      wordStored_memWrite s x s.ac⟩
  · obtain ⟨m, hm, hlow, hhigh, honly⟩ := exists_writePair_eq s (ramIndex_addrPair_ne s x) s.lr s.hr
    have hnext : exec (.xchHLX x) s =
        .next (advance 2
          ((((s.setRam m).setLr (memRead s (addrPair x))).setHr (memRead s (addrPair x + 1))).setSf true)) := by
      rw [← hm]
      rfl
    exact ⟨m, hnext.trans (congrArg Host.Outcome.next (advance_setSf _ 2 true)), hlow, hhigh, honly⟩
  · exact encodes_encode .xchAHL
  · exact fun x => encodes_encode (.xchAX x)
  · exact fun x => encodes_encode (.xchHLX x)

end Sys2Proof.Machine
end

section
/-! The compare instructions: the flags of the discarded difference, with the first operand on the left of each relation. -/

namespace Sys2Proof.Machine

section Flags

variable (s : State) (len : RomAddr)

/-- R180 (a), (c): the difference `b - a` is zero exactly when the operands are equal. -/
theorem advance_compareFlags (a b : Nibble) :
    advance len (compareFlags b a s) = { s with pc := s.pc + len, zf := decide (a = b), sf := decide (a ≠ b) } := by
  rw [compareFlags_eq, decide_eq_decide.mpr (eq_comm (a := b) (b := a)), ← decide_not]
  rfl

/-- R180 (b): CF is the non-borrow of `b - a`, over the other two flags. -/
theorem advance_compareFlagsCf (a b : Nibble) :
    advance len (compareFlagsCf b a s) =
      { s with
        pc := s.pc + len, cf := decide (a.toNat ≤ b.toNat), zf := decide (a = b), sf := decide (a ≠ b) } := by
  have hcf : advance len (compareFlagsCf b a s) = (advance len (compareFlags b a s)).setCf (sub4 b a true).2 := rfl
  rw [hcf, advance_compareFlags, sub4_true]
  rfl

end Flags

/-- Settles O7: each ends in the flags of its two operands, and the H and L forms leave CF. -/
theorem compareResults : Obligations.CompareResults := by
  unfold Obligations.CompareResults
  refine ⟨fun s => ?_, fun s x => ?_, fun s k => ?_, fun s k => ?_, fun s k => ?_, fun s y k => ?_,
    ?_, ?_, ?_, ?_, ?_, ?_⟩
  · exact congrArg Host.Outcome.next (advance_compareFlagsCf s 1 s.ac (readHL s))
  · exact congrArg Host.Outcome.next (advance_compareFlagsCf s 2 s.ac (memRead s x))
  · exact congrArg Host.Outcome.next (advance_compareFlagsCf s 1 s.ac k)
  · exact congrArg Host.Outcome.next (advance_compareFlags s 2 s.hr k)
  · exact congrArg Host.Outcome.next (advance_compareFlags s 2 s.lr k)
  · exact congrArg Host.Outcome.next (advance_compareFlagsCf s 2 (memRead s (addrY y)) k)
  · exact encodes_encode .cmprAHL
  · exact fun x => encodes_encode (.cmprAX x)
  · exact fun k => encodes_encode (.cmprAK k)
  · exact fun k => encodes_encode (.cmprHK k)
  · exact fun k => encodes_encode (.cmprLK k)
  · exact fun y k => encodes_encode (.cmprYK y k)

end Sys2Proof.Machine
end

section
/-! The arithmetic instructions: the adder's answer as a sum of naturals or a difference of integers, and the flags read from
it. -/

namespace Sys2Proof.Machine

/-! ## The adder (R14, R15, R190) -/

theorem add4_eq_of_sum {a b : Nibble} {cin : Bool} {sum : Nat} (h : sum = a.toNat + b.toNat + cin.toNat) :
    add4 a b cin = (BitVec.ofNat 4 sum, decide (16 ≤ sum)) := by
  subst h
  rfl

theorem sub4_eq_of_difference {a b : Nibble} {cin : Bool} {d : Int} (h : d = a.toNat - b.toNat - (!cin).toNat) :
    sub4 a b cin = (BitVec.ofInt 4 d, decide (0 ≤ d)) := by
  rw [sub4_eq, ← h]

theorem sub4_true_eq_of_difference {a b : Nibble} {d : Int} (h : d = a.toNat - b.toNat) :
    sub4 a b true = (BitVec.ofInt 4 d, decide (0 ≤ d)) :=
  sub4_eq_of_difference (h.trans (Int.sub_zero _).symm)

/-- A decrement borrows at 0 alone. -/
theorem sub4_one (v : Nibble) : sub4 v 1#4 true = (v - 1, decide (v ≠ 0)) := by
  rw [sub4_true, decide_eq_decide.mpr (one_le_toNat_iff v)]
  rfl

theorem ofNat_four_eq_zero_iff (n : Nat) : BitVec.ofNat 4 n = 0#4 ↔ n % 16 = 0 := by
  rw [← BitVec.toNat_inj, BitVec.toNat_ofNat]
  rfl

theorem ofInt_four_eq_zero_iff (d : Int) : BitVec.ofInt 4 d = 0#4 ↔ d % 16 = 0 := by
  rw [← BitVec.toNat_inj, BitVec.toNat_ofInt, BitVec.toNat_zero]
  omega

/-! ## The end of an instruction that adds or subtracts (R23, R190)

`put` stores the adder's answer `r` in the destination, and in CF where the instruction writes it. -/

section WholeState

variable (len : RomAddr) {r : Nibble × Bool} (put : Nibble × Bool → State)

theorem advance_sumFlags {sum : Nat} (h : r = (BitVec.ofNat 4 sum, decide (16 ≤ sum))) :
    advance len (sumFlags r (put r)) =
      { advance len (put (BitVec.ofNat 4 sum, decide (16 ≤ sum))) with
        zf := decide (sum % 16 = 0), sf := decide (sum < 16) } := by
  have hzero : decide (BitVec.ofNat 4 sum = 0#4) = decide (sum % 16 = 0) :=
    decide_eq_decide.mpr (ofNat_four_eq_zero_iff sum)
  have hcarry : (!decide (16 ≤ sum)) = decide (sum < 16) := by
    rw [← decide_not, decide_eq_decide, Nat.not_le]
  rw [h, sumFlags_eq, hzero, hcarry]
  rfl

theorem advance_differenceFlags {d : Int} (h : r = (BitVec.ofInt 4 d, decide (0 ≤ d))) :
    advance len (differenceFlags r (put r)) =
      { advance len (put (BitVec.ofInt 4 d, decide (0 ≤ d))) with
        zf := decide (d % 16 = 0), sf := decide (0 ≤ d) } := by
  have hzero : decide (BitVec.ofInt 4 d = 0#4) = decide (d % 16 = 0) :=
    decide_eq_decide.mpr (ofInt_four_eq_zero_iff d)
  rw [h, differenceFlags_eq, hzero]
  rfl

theorem advance_decrementFlags {v : Nibble} (h : r = (v - 1, decide (v ≠ 0))) :
    advance len (differenceFlags r (put r)) =
      { advance len (put (v - 1, decide (v ≠ 0))) with zf := decide (v = 1), sf := decide (v ≠ 0) } := by
  have hzero : decide (v - 1 = 0#4) = decide (v = 1) := decide_eq_decide.mpr (sub_one_eq_zero_iff v)
  rw [h, differenceFlags_eq, hzero]
  rfl

end WholeState

/-! ## The arithmetic instructions -/

/-- Settles O8: each is one sum; `ADDC` alone adds CF and stores the carry. -/
theorem addRegisterResults : Obligations.AddRegisterResults := by
  unfold Obligations.AddRegisterResults
  refine ⟨fun s sum h => ?_, fun s sum h => ?_, fun s k sum h => ?_, fun s k sum h => ?_, fun s k sum h => ?_,
    ?_, ?_, ?_, ?_, ?_⟩
  · exact congrArg Host.Outcome.next (advance_sumFlags 1 (fun r => (s.setAc r.1).setCf r.2) (add4_eq_of_sum h))
  · exact congrArg Host.Outcome.next (advance_sumFlags 1 (fun r => s.setAc r.1) (add4_eq_of_sum h))
  · exact congrArg Host.Outcome.next (advance_sumFlags 2 (fun r => s.setAc r.1) (add4_eq_of_sum h))
  · exact congrArg Host.Outcome.next (advance_sumFlags 2 (fun r => s.setHr r.1) (add4_eq_of_sum h))
  · exact congrArg Host.Outcome.next (advance_sumFlags 2 (fun r => s.setLr r.1) (add4_eq_of_sum h))
  · exact encodes_encode .addcAHL
  · exact encodes_encode .addAHL
  · exact fun k => encodes_encode (.addAK k)
  · exact fun k => encodes_encode (.addHK k)
  · exact fun k => encodes_encode (.addLK k)

/-- Settles O10: `SUBRC` borrows by the inverse of CF; a decrement gives zero at 1 and borrows at 0. -/
theorem subtractRegisterResults : Obligations.SubtractRegisterResults := by
  unfold Obligations.SubtractRegisterResults
  refine ⟨fun s => ?_, fun s => ?_, fun s d h => ?_, fun s k d h => ?_, ?_, ?_, ?_, ?_⟩
  · exact congrArg Host.Outcome.next (advance_decrementFlags 1 (fun r => s.setAc r.1) (sub4_one s.ac))
  · exact congrArg Host.Outcome.next (advance_decrementL s 1)
  · exact congrArg Host.Outcome.next
      (advance_differenceFlags 1 (fun r => (s.setAc r.1).setCf r.2) (sub4_eq_of_difference h))
  · exact congrArg Host.Outcome.next
      (advance_differenceFlags 2 (fun r => s.setAc r.1) (sub4_true_eq_of_difference h))
  · exact encodes_encode .decA
  · exact encodes_encode .decL
  · exact encodes_encode .subrcAHL
  · exact fun k => encodes_encode (.subrAK k)

/-- Settles O9: each is one sum or difference, stored by one `memWrite` at the address it was read from. -/
theorem arithmeticMemoryResults : Obligations.ArithmeticMemoryResults := by
  unfold Obligations.ArithmeticMemoryResults
  refine ⟨fun s sum h => ?_, fun s k sum h => ?_, fun s y k sum h => ?_, ?_, ?_, ?_,
    fun s d h => ?_, fun s k d h => ?_, ?_, ?_⟩
  · exact ⟨(writeHL (BitVec.ofNat 4 sum) s).ram,
      congrArg Host.Outcome.next (advance_sumFlags 1 (fun r => writeHL r.1 s) (add4_eq_of_sum h)),
      wordStored_memWrite s (addrHL s) _⟩
  · exact ⟨(writeHL (BitVec.ofNat 4 sum) s).ram,
      congrArg Host.Outcome.next (advance_sumFlags 2 (fun r => writeHL r.1 s) (add4_eq_of_sum h)),
      wordStored_memWrite s (addrHL s) _⟩
  · exact ⟨(memWrite s (addrY y) (BitVec.ofNat 4 sum)).ram,
      congrArg Host.Outcome.next (advance_sumFlags 2 (fun r => memWrite s (addrY y) r.1) (add4_eq_of_sum h)),
      wordStored_memWrite s (addrY y) _⟩
  · exact encodes_encode .incHL
  · exact fun k => encodes_encode (.addHLK k)
  · exact fun y k => encodes_encode (.addYK y k)
  · exact ⟨(writeHL (BitVec.ofInt 4 d) s).ram,
      congrArg Host.Outcome.next
        (advance_differenceFlags 1 (fun r => writeHL r.1 s) (sub4_true_eq_of_difference h)),
      wordStored_memWrite s (addrHL s) _⟩
  · exact ⟨(writeHL (BitVec.ofInt 4 d) s).ram,
      congrArg Host.Outcome.next
        (advance_differenceFlags 2 (fun r => writeHL r.1 s) (sub4_true_eq_of_difference h)),
      wordStored_memWrite s (addrHL s) _⟩
  · exact encodes_encode .decHL
  · exact fun k => encodes_encode (.subrHLK k)

end Sys2Proof.Machine
end

section
/-! The logical instructions: the ring of CF and A turned by one place, the register increments, and the bitwise operations,
each with its flags as one equation for the whole next state. -/

namespace Sys2Proof.Machine

/-! ## The ring of CF and the accumulator as a number (R216, R217) -/

/-- The five-bit ring `CF . A` turned left: A doubles, CF enters below it, and the bit above is the one CF takes. -/
theorem rotateLeft_toNat (v : Nibble) (c : Bool) :
    (v.extractLsb' 0 3 ++ BitVec.ofBool c).toNat = (2 * v.toNat + c.toNat) % 16 := by
  decide +revert

/-- The ring turned right: A is halved, its low bit leaves, and CF enters with weight 8. -/
theorem rotateRight_toNat (v : Nibble) (c : Bool) :
    (BitVec.ofBool c ++ v.extractLsb' 1 3).toNat = v.toNat / 2 + 8 * c.toNat := by
  decide +revert

/-! ## The end of a logical instruction or an increment (R23, R190, R215) -/

section WholeState

variable (s : State) (len : RomAddr)

theorem advance_rotateFlags (v : Nibble) (out : Bool) :
    advance len (rotateFlags v out s) =
      { s with pc := s.pc + len, cf := out, zf := decide (v = 0), sf := !out } := rfl

theorem advance_logicFlags (v : Nibble) :
    advance len (logicFlags v s) = { s with pc := s.pc + len, zf := decide (v = 0), sf := decide (v ≠ 0) } := by
  rw [logicFlags_eq, ← decide_not]
  rfl

/-- An increment gives zero and carries at the same value; `put` stores the adder's answer in its register. -/
theorem advance_incrementFlags (put : Nibble × Bool → State) {r : Nibble × Bool} {v : Nibble}
    (h : r = (v + 1, decide (v = 0xF))) :
    advance len (sumFlags r (put r)) =
      { advance len (put (v + 1, decide (v = 0xF))) with zf := decide (v = 0xF), sf := decide (v ≠ 0xF) } := by
  have hzero : decide (v + 1 = 0#4) = decide (v = 0xF) := decide_eq_decide.mpr (add_one_eq_zero_iff v)
  rw [h, sumFlags_eq, hzero, ← decide_not]
  rfl

end WholeState

/-! ## The logical instructions -/

/-- Settles O11: the value a rotate leaves is the ring read as a number; the increments carry exactly on the wrap. -/
theorem rotateAndIncrementResults : Obligations.RotateAndIncrementResults := by
  unfold Obligations.RotateAndIncrementResults
  refine ⟨fun s => ?_, fun s => ?_, fun s => ?_, fun s => ?_, ?_, ?_, ?_, ?_⟩
  · exact ⟨s.ac.extractLsb' 0 3 ++ BitVec.ofBool s.cf,
      congrArg Host.Outcome.next (advance_rotateFlags (s.setAc _) 1 _ (s.ac.getLsbD 3)), rotateLeft_toNat s.ac s.cf⟩
  · exact ⟨BitVec.ofBool s.cf ++ s.ac.extractLsb' 1 3,
      congrArg Host.Outcome.next (advance_rotateFlags (s.setAc _) 1 _ (s.ac.getLsbD 0)), rotateRight_toNat s.ac s.cf⟩
  · exact congrArg Host.Outcome.next (advance_incrementFlags 1 (fun r => s.setAc r.1) (add4_one s.ac))
  · exact congrArg Host.Outcome.next (advance_incrementL s 1)
  · exact encodes_encode .rolcA
  · exact encodes_encode .rorcA
  · exact encodes_encode .incA
  · exact encodes_encode .incL

/-- Settles O12: each ends in `logicFlags` of the value it stores, in A or by one `memWrite` at H.L. -/
theorem logicResults : Obligations.LogicResults := by
  unfold Obligations.LogicResults
  refine ⟨?_, ?_, ?_, ?_, ?_, ?_, ?_, ?_, ?_, ?_, ?_, ?_, ?_, ?_⟩
  · rintro s v rfl
    exact congrArg Host.Outcome.next (advance_logicFlags (s.setAc (s.ac &&& readHL s)) 1 _)
  · rintro s k v rfl
    exact congrArg Host.Outcome.next (advance_logicFlags (s.setAc (s.ac &&& k)) 2 _)
  · rintro s v rfl
    exact congrArg Host.Outcome.next (advance_logicFlags (s.setAc (s.ac ||| readHL s)) 1 _)
  · rintro s k v rfl
    exact congrArg Host.Outcome.next (advance_logicFlags (s.setAc (s.ac ||| k)) 2 _)
  · rintro s v rfl
    exact congrArg Host.Outcome.next (advance_logicFlags (s.setAc (s.ac ^^^ readHL s)) 1 _)
  · exact encodes_encode .andAHL
  · exact fun k => encodes_encode (.andAK k)
  · exact encodes_encode .orAHL
  · exact fun k => encodes_encode (.orAK k)
  · exact encodes_encode .xorAHL
  · rintro s k v rfl
    exact ⟨(writeHL (readHL s &&& k) s).ram,
      congrArg Host.Outcome.next (advance_logicFlags (writeHL (readHL s &&& k) s) 2 _),
      wordStored_memWrite s (addrHL s) _⟩
  · rintro s k v rfl
    exact ⟨(writeHL (readHL s ||| k) s).ram,
      congrArg Host.Outcome.next (advance_logicFlags (writeHL (readHL s ||| k) s) 2 _),
      wordStored_memWrite s (addrHL s) _⟩
  · exact fun k => encodes_encode (.andHLK k)
  · exact fun k => encodes_encode (.orHLK k)

end Sys2Proof.Machine
end

section
/-! The bit manipulation instructions: one bit of a word, what a port shows to a test, and the latch a port bit is changed in.
The facts about ports are stated for every port of R80's columns, not only for the tests. -/

namespace Sys2Proof.Machine

/-! ## One bit of a word (R230, R243, R248) -/

theorem getLsbD_withBitSet (v : Nibble) (b : BitVec 2) :
    ∀ c < 4, (withBitSet v b).getLsbD c = (decide (c = b.toNat) || v.getLsbD c) := by
  decide +revert

theorem getLsbD_withBitClear (v : Nibble) (b : BitVec 2) :
    ∀ c < 4, (withBitClear v b).getLsbD c = (!decide (c = b.toNat) && v.getLsbD c) := by
  decide +revert

/-! ## The port and the bit that L selects (R255) -/

theorem portOfL_eq (s : State) : portOfL s = 0b01#2 ++ s.lr.extractLsb' 2 2 := by
  have hport : ∀ l : Nibble, 4#4 + (l >>> 2) = 0b01#2 ++ l.extractLsb' 2 2 := by decide
  exact hport s.lr

theorem bitOfL_toNat (s : State) : (bitOfL s).toNat = s.lr.toNat % 4 := rfl

/-- L selects one of R4 to R7, which every bit instruction may name (R80). -/
theorem portOfL_mem_setClrPorts (s : State) : (portOfL s).toNat ∈ setClrPorts := by
  have hport : ∀ l : Nibble, (4#4 + (l >>> 2)).toNat ∈ setClrPorts := by decide
  exact hport s.lr

/-! ## What a port shows (R84, R85) -/

theorem inTransmit_eq (s : State) : inTransmit s = transmitSelected s := by
  unfold inTransmit transmitSelected serialMode
  cases s.cmds.cmd1F.getLsbD 2 <;> cases s.cmds.cmd1F.getLsbD 1 <;> rfl

/-- The pins of R9 one by one: the serial port is a further term of the wired AND at SCK and at SO. -/
theorem pinsR9_eq (s : State) :
    pinsR9 s = BitVec.ofBool (levelSck s) ++ BitVec.ofBool (levelSo s) ++ BitVec.ofBool (levelSi s) := by
  have hwired : ∀ (r e : BitVec 3) (sck so : Bool),
      r &&& e &&& (BitVec.ofBool sck ++ BitVec.ofBool so ++ 1#1) =
        BitVec.ofBool (r.getLsbD 2 && e.getLsbD 2 && sck) ++ BitVec.ofBool (r.getLsbD 1 && e.getLsbD 1 && so) ++
          BitVec.ofBool (r.getLsbD 0 && e.getLsbD 0) := by decide
  unfold pinsR9
  rw [inTransmit_eq]
  exact hwired s.ports.r9 s.env.r9 _ _

/-- R378: the read of the buffer, by whether a complete word waits in the shift register. -/
theorem readSerialBuffer_eq (s : State) : readSerialBuffer s = afterRead s 0xF := by
  by_cases hfull : s.sio.srFull = true
  · simp only [readSerialBuffer, setRequest_false, hfull, if_true]
    rw [setRequest_frame, setRequest_sio, setRequest_true_latch _ rfl]
    simp [afterRead, hfull, State.setSio, State.setIntl]
  · simp [readSerialBuffer, afterRead, hfull, State.setSio]

/-- The port 9 shows its three pins under a fourth bit at 1. -/
theorem portIn_r9 (s : State) (u : BitVec 2) : portIn 0x9 s = .ok (portValue s 0x9 u, s) := by
  have happend : ∀ a b c : Bool, 1#1 ++ (BitVec.ofBool a ++ BitVec.ofBool b ++ BitVec.ofBool c) =
      1#1 ++ BitVec.ofBool a ++ BitVec.ofBool b ++ BitVec.ofBool c := by decide
  have hvalue : 1#1 ++ pinsR9 s = portValue s 0x9 u := (congrArg (1#1 ++ ·) (pinsR9_eq s)).trans (happend _ _ _)
  exact congrArg (fun v => Except.ok (v, s)) hvalue

theorem portIn_buffer (s : State) (u : BitVec 2) : portIn 0xF s = .ok (portValue s 0xF u, afterRead s 0xF) :=
  congrArg (fun t => Except.ok (s.sio.sb, t)) (readSerialBuffer_eq s)

/-- The input ports, those that take more than one step to read first. -/
theorem inPort_cases {p : Nibble} (hp : p.toNat ∈ inPorts) :
    p = 0x9 ∨ p = 0xF ∨ p = 0x0 ∨ p = 0x1 ∨ p = 0x2 ∨ p = 0x4 ∨ p = 0x5 ∨ p = 0x6 ∨
      p = 0x7 ∨ p = 0x8 ∨ p = 0xE := by
  decide +revert

/-- An input at every port of its column of R80; the free bits of port E are those the read uses up. -/
theorem portIn_eq {p : Nibble} (hp : p.toNat ∈ inPorts) (s : State) :
    portIn p s = .ok (portValue s p ((takeFree s).1.extractLsb' 0 2), afterRead s p) := by
  obtain rfl | rfl | rfl | rfl | rfl | rfl | rfl | rfl | rfl | rfl | rfl := inPort_cases hp
  · exact portIn_r9 s _
  · exact portIn_buffer s _
  all_goals rfl

theorem portTest_eq {p : Nibble} (hp : p.toNat ∈ testPorts) (s : State) :
    portTest p s = .ok (portValue s p ((takeFree s).1.extractLsb' 0 2), afterRead s p) := by
  have hcolumn : ∀ q : Nibble, q.toNat ∈ testPorts → q ≠ 0xF#4 ∧ q.toNat ∈ inPorts := by decide
  obtain ⟨hbuffer, hin⟩ := hcolumn p hp
  rw [portTest, if_neg hbuffer, portIn_eq hin]

/-- Only the status port has bits that the spec leaves free (U4). -/
theorem portValue_of_ne_status {p : Nibble} (hstatus : p ≠ 0xE#4) (s : State) (u w : BitVec 2) :
    portValue s p u = portValue s p w := by
  unfold portValue
  split
  case h_10 hport => exact absurd (BitVec.eq_of_toNat_eq hport) hstatus
  all_goals rfl

/-! ## What a read of a port leaves (R91) -/

/-- A port with a latch that `SET` and `CLR` change may be tested, and is neither the status port nor the buffer. -/
theorem setClrPort_tested {p : Nibble} (hp : p.toNat ∈ setClrPorts) : p.toNat ∈ testPorts ∧ p ≠ 0xE#4 ∧ p ≠ 0xF#4 := by
  decide +revert

theorem afterRead_of_latch {p : Nibble} (hp : p.toNat ∈ setClrPorts) (s : State) : afterRead s p = s := by
  obtain ⟨-, hstatus, hbuffer⟩ := setClrPort_tested hp
  rw [afterRead, if_neg hstatus, if_neg hbuffer]

@[simp] theorem afterRead_pc (s : State) (p : Nibble) : (afterRead s p).pc = s.pc := by
  unfold afterRead
  split
  · rfl
  · split
    · split <;> rfl
    · rfl

theorem advance_setSf_afterRead (s : State) (p : Nibble) (len : RomAddr) (b : Bool) :
    advance len ((afterRead s p).setSf b) = { afterRead s p with pc := s.pc + len, sf := b } := by
  rw [advance_setSf, afterRead_pc]

/-! ## The latch of a port (R46, R86, R87) -/

theorem latchPort_cases {p : Nibble} (hp : p.toNat ∈ setClrPorts) :
    p = 0x1 ∨ p = 0x2 ∨ p = 0x4 ∨ p = 0x5 ∨ p = 0x6 ∨ p = 0x7 ∨ p = 0x8 ∨ p = 0x9 := by
  decide +revert

section Latches

variable {p : Nibble} (hp : p.toNat ∈ setClrPorts) (s : State)

include hp

theorem portLatch_eq : portLatch p s = some (latchOf s.ports p) := by
  obtain rfl | rfl | rfl | rfl | rfl | rfl | rfl | rfl := latchPort_cases hp <;> rfl

theorem portOut_latch (v : Nibble) : portOut (p.setWidth 5) v s = .ok (s.setPorts (withLatch s.ports p v)) := by
  obtain rfl | rfl | rfl | rfl | rfl | rfl | rfl | rfl := latchPort_cases hp <;> rfl

/-- R87: the change is applied to the latch, and the latch alone is written. -/
theorem updateLatch_eq (change : Nibble → Nibble) :
    updateLatch p change s = .ok (s.setPorts (withLatch s.ports p (change (latchOf s.ports p)))) := by
  simp only [updateLatch, portLatch_eq hp, portOut_latch hp]

end Latches

/-! ## Bit instructions whose access to the port is allowed (R235, R236, R241, R245, R246, R250, R251) -/

section Allowed

variable {s t : State} {p v : Nibble} {b : BitVec 2}

theorem exec_testPB_of_portTest (h : portTest p s = .ok (v, t)) :
    exec (.testPB p b) s = .next (advance 2#12 (t.setSf (!bitOf v b))) := by
  simp [exec, execTestPB, h]

theorem exec_testpPB_of_portTest (h : portTest p s = .ok (v, t)) :
    exec (.testpPB p b) s = .next (advance 2#12 (t.setSf (bitOf v b))) := by
  simp [exec, execTestpPB, h]

theorem exec_testL_of_portTest (h : portTest (portOfL s) s = .ok (v, t)) :
    exec .testL s = .next (advance 1#12 (t.setSf (!bitOf v (bitOfL s)))) := by
  simp [exec, execTestL, h]

theorem exec_setPB_of_updateLatch (h : updateLatch p (fun v => withBitSet v b) s = .ok t) :
    exec (.setPB p b) s = .next (advance 2#12 (t.setSf true)) := by
  simp [exec, execSetPB, h]

theorem exec_clrPB_of_updateLatch (h : updateLatch p (fun v => withBitClear v b) s = .ok t) :
    exec (.clrPB p b) s = .next (advance 2#12 (t.setSf true)) := by
  simp [exec, execClrPB, h]

theorem exec_setL_of_updateLatch (h : updateLatch (portOfL s) (fun v => withBitSet v (bitOfL s)) s = .ok t) :
    exec .setL s = .next (advance 1#12 (t.setSf true)) := by
  simp [exec, execSetL, h]

theorem exec_clrL_of_updateLatch (h : updateLatch (portOfL s) (fun v => withBitClear v (bitOfL s)) s = .ok t) :
    exec .clrL s = .next (advance 1#12 (t.setSf true)) := by
  simp [exec, execClrL, h]

end Allowed

/-! ## The bit manipulation instructions -/

/-- Settles O13: each ends in `setSf` of the bit as it was, over the flag that the instruction writes. -/
theorem flagAndDataBitTestResults : Obligations.FlagAndDataBitTestResults := by
  unfold Obligations.FlagAndDataBitTestResults
  refine ⟨fun s => ?_, fun s => ?_, fun s => ?_, fun s => ?_, fun s => ?_, fun s => ?_, ?_, ?_, ?_, ?_, ?_, ?_,
    fun s b => ?_, fun s b => ?_, fun s y b => ?_, fun s y b => ?_, ?_, ?_, ?_, ?_⟩
  · exact congrArg Host.Outcome.next (advance_setSf (s.setCf false) 1 (!s.cf))
  · exact congrArg Host.Outcome.next (advance_setSf (s.setCf true) 1 s.cf)
  · exact congrArg Host.Outcome.next (advance_setSf s 1 s.zf)
  · exact congrArg Host.Outcome.next (advance_setSf s 1 s.gf)
  · exact congrArg Host.Outcome.next (advance_setSf (s.setGf true) 1 true)
  · exact congrArg Host.Outcome.next (advance_setSf (s.setGf false) 1 true)
  · exact encodes_encode .testCF
  · exact encodes_encode .testpCF
  · exact encodes_encode .testpZF
  · exact encodes_encode .testpGF
  · exact encodes_encode .setGF
  · exact encodes_encode .clrGF
  · exact congrArg Host.Outcome.next (advance_setSf s 1 (!bitOf s.ac b))
  · exact congrArg Host.Outcome.next (advance_setSf s 1 (!bitOf (readHL s) b))
  · exact congrArg Host.Outcome.next (advance_setSf s 2 (!bitOf (memRead s (addrY y)) b))
  · exact congrArg Host.Outcome.next (advance_setSf s 2 (bitOf (memRead s (addrY y)) b))
  · exact fun b => encodes_encode (.testAB b)
  · exact fun b => encodes_encode (.testHLB b)
  · exact fun y b => encodes_encode (.testYB y b)
  · exact fun y b => encodes_encode (.testpYB y b)

/-- Settles O14: each is one `memWrite`, at the address it was read from, of the word with one bit changed. -/
theorem dataBitChangeResults : Obligations.DataBitChangeResults := by
  unfold Obligations.DataBitChangeResults
  refine ⟨fun s b => ?_, fun s y b => ?_, fun s b => ?_, fun s y b => ?_, ?_, ?_, ?_, ?_⟩
  · exact ⟨(writeHL (withBitSet (readHL s) b) s).ram, withBitSet (readHL s) b,
      congrArg Host.Outcome.next (advance_setSf (writeHL _ s) 1 true),
      wordStored_memWrite s (addrHL s) _, getLsbD_withBitSet _ b⟩
  · exact ⟨(memWrite s (addrY y) (withBitSet (memRead s (addrY y)) b)).ram, withBitSet (memRead s (addrY y)) b,
      congrArg Host.Outcome.next (advance_setSf (memWrite s (addrY y) _) 2 true),
      wordStored_memWrite s (addrY y) _, getLsbD_withBitSet _ b⟩
  · exact ⟨(writeHL (withBitClear (readHL s) b) s).ram, withBitClear (readHL s) b,
      congrArg Host.Outcome.next (advance_setSf (writeHL _ s) 1 true),
      wordStored_memWrite s (addrHL s) _, getLsbD_withBitClear _ b⟩
  · exact ⟨(memWrite s (addrY y) (withBitClear (memRead s (addrY y)) b)).ram, withBitClear (memRead s (addrY y)) b,
      congrArg Host.Outcome.next (advance_setSf (memWrite s (addrY y) _) 2 true),
      wordStored_memWrite s (addrY y) _, getLsbD_withBitClear _ b⟩
  · exact fun b => encodes_encode (.setHLB b)
  · exact fun y b => encodes_encode (.setYB y b)
  · exact fun b => encodes_encode (.clrHLB b)
  · exact fun y b => encodes_encode (.clrYB y b)

/-- Settles O15: the tests see what the port shows; the ports that L selects show no free bit and are read without effect. -/
theorem portBitTestResults : Obligations.PortBitTestResults := by
  unfold Obligations.PortBitTestResults
  refine ⟨fun p hp s b => ?_, fun s => ?_, ?_, ?_, ?_⟩
  · have hcolumn : p.toNat ∈ testPorts := by decide +revert
    have hread := portTest_eq hcolumn s
    exact ⟨⟨_, (exec_testPB_of_portTest hread).trans (congrArg Host.Outcome.next (advance_setSf_afterRead s p 2 _))⟩,
      ⟨_, (exec_testpPB_of_portTest hread).trans (congrArg Host.Outcome.next (advance_setSf_afterRead s p 2 _))⟩⟩
  · have hlatch := portOfL_mem_setClrPorts s
    obtain ⟨hcolumn, hstatus, -⟩ := setClrPort_tested hlatch
    have hread : portTest (portOfL s) s = .ok (portValue s (portOfL s) 0, s) := by
      rw [portTest_eq hcolumn, afterRead_of_latch hlatch, portValue_of_ne_status hstatus]
    rw [← portOfL_eq, ← bitOfL_toNat]
    exact (exec_testL_of_portTest hread).trans (congrArg Host.Outcome.next (advance_setSf s 1 _))
  · exact fun p b => encodes_encode (.testPB p b)
  · exact fun p b => encodes_encode (.testpPB p b)
  · exact encodes_encode .testL

/-- Settles O16: the latch that is read is written back with one bit changed. -/
theorem portBitChangeResults : Obligations.PortBitChangeResults := by
  unfold Obligations.PortBitChangeResults
  refine ⟨fun p hp s b => ?_, ?_, ?_⟩
  · have hcolumn : p.toNat ∈ setClrPorts := by decide +revert
    have hupdate := updateLatch_eq hcolumn s
    exact ⟨⟨_, exec_setPB_of_updateLatch (hupdate _), getLsbD_withBitSet _ b⟩,
      ⟨_, exec_clrPB_of_updateLatch (hupdate _), getLsbD_withBitClear _ b⟩⟩
  · exact fun p b => encodes_encode (.setPB p b)
  · exact fun p b => encodes_encode (.clrPB p b)

/-- Settles O17: the port and the bit are those that L selects, and the change is that of a named port. -/
theorem selectedPinChangeResults : Obligations.SelectedPinChangeResults := by
  unfold Obligations.SelectedPinChangeResults
  simp only [← portOfL_eq, ← bitOfL_toNat]
  refine ⟨?_, ?_, ?_, ?_⟩
  · rintro s p rfl
    exact ⟨_, exec_setL_of_updateLatch (updateLatch_eq (portOfL_mem_setClrPorts s) s _), getLsbD_withBitSet _ (bitOfL s)⟩
  · rintro s p rfl
    exact ⟨_, exec_clrL_of_updateLatch (updateLatch_eq (portOfL_mem_setClrPorts s) s _), getLsbD_withBitClear _ (bitOfL s)⟩
  · exact encodes_encode .setL
  · exact encodes_encode .clrL

/-- Settles O18: the three forms leave the same latches, and differ in EIF alone. -/
theorem interruptLatchResults : Obligations.InterruptLatchResults := by
  unfold Obligations.InterruptLatchResults
  refine fun s r => ⟨s.intl &&& r, fun j _ => BitVec.getLsbD_and, ?_, ?_, ?_, ?_, ?_, ?_⟩
  · exact congrArg Host.Outcome.next (advance_setSf (s.setIntl (s.intl &&& r)) 2 true)
  · exact congrArg Host.Outcome.next (advance_setSf ((s.setEif true).setIntl (s.intl &&& r)) 2 true)
  · exact congrArg Host.Outcome.next (advance_setSf ((s.setEif false).setIntl (s.intl &&& r)) 2 true)
  · exact encodes_encode (.clrIL r)
  · exact encodes_encode (.eiclrIL r)
  · exact encodes_encode (.diclrIL r)

end Sys2Proof.Machine
end

section
/-! The input/output instructions whose effect is on the CPU or on the port latches: what an input stores, the latch an output
writes, and the table byte that `OUTB` sends. -/

namespace Sys2Proof.Machine

/-! ## Input/output instructions whose access to the port is allowed (R266, R267, R270) -/

section Allowed

variable {s t : State} {p v : Nibble}

theorem exec_inPA_of_portIn (h : portIn p s = .ok (v, t)) :
    exec (.inPA p) s = .next (advance 2#12 (logicFlags v (t.setAc v))) := by
  simp [exec, execInPA, h]

theorem exec_inPHL_of_portIn (h : portIn p s = .ok (v, t)) :
    exec (.inPHL p) s = .next (advance 2#12 ((writeHL v t).setSf (!isZero v))) := by
  simp [exec, execInPHL, h]

theorem exec_outKP_of_portOut {k : Nibble} (h : portOut (p.setWidth 5) k s = .ok t) :
    exec (.outKP k p) s = .next (advance 2#12 (t.setSf true)) := by
  simp [exec, execOutKP, h]

end Allowed

/-! ## The end of an input as one equation (R91, R266, R267) -/

section WholeState

variable (s : State) (p v : Nibble) (len : RomAddr)

/-- A read changes the serial port, the interrupt latches and the count of free values only (R91, R378). -/
theorem afterRead_frame :
    afterRead s p =
      ((s.setSio (afterRead s p).sio).setIntl (afterRead s p).intl).setFreeCount (afterRead s p).freeCount := by
  unfold afterRead
  split
  · rfl
  · split
    · split <;> rfl
    · rfl

/-- A read of a port leaves H, L and RAM, so a store after it is the store before it. -/
theorem writeHL_afterRead : writeHL v (afterRead s p) = (afterRead s p).setRam (writeHL v s).ram := by
  rw [afterRead_frame]
  rfl

theorem advance_logicFlags_setAc_afterRead :
    advance len (logicFlags v ((afterRead s p).setAc v)) =
      { afterRead s p with pc := s.pc + len, ac := v, zf := decide (v = 0), sf := decide (v ≠ 0) } := by
  rw [advance_logicFlags, State.setAc_pc, afterRead_pc]
  rfl

theorem advance_setSf_writeHL_afterRead :
    advance len ((writeHL v (afterRead s p)).setSf (!isZero v)) =
      { afterRead s p with pc := s.pc + len, ram := (writeHL v s).ram, sf := decide (v ≠ 0) } := by
  rw [writeHL_afterRead, advance_setSf, State.setRam_pc, afterRead_pc, isZero_eq, ← decide_not]
  rfl

end WholeState

/-! ## The 5-bit port of an output (R79, R127) -/

theorem portFields_append (p4 : BitVec 1) (p : Nibble) :
    (p4 ++ p).extractLsb' 4 1 = p4 ∧ (p4 ++ p).extractLsb' 0 4 = p :=
  ⟨BitVec.extractLsb'_append_eq_left, BitVec.extractLsb'_append_eq_right⟩

theorem encode_outAP_append (p4 : BitVec 1) (p : Nibble) :
    encode (.outAP (p4 ++ p)) = [0x3A, 0b10#2 ++ p4 ++ 0#1 ++ p] := by
  simp only [encode, portFields_append]
  rfl

theorem encode_outHLP_append (p4 : BitVec 1) (p : Nibble) :
    encode (.outHLP (p4 ++ p)) = [0x3A, 0b11#2 ++ p4 ++ 0#1 ++ p] := by
  simp only [encode, portFields_append]
  rfl

/-- An output latch is named by a port whose bit 4 is 0, in the 4-bit field and in the 5-bit one. -/
theorem zero_append_eq_setWidth (p : Nibble) : 0#1 ++ p = p.setWidth 5 := by
  decide +revert

/-! ## The table of `OUTB` (R271) -/

theorem addrPla_toNat (s : State) :
    (addrPla s).toNat = 0xFE0 + 16 * s.cf.toNat + (memRead s (s.hr ++ s.lr)).toNat := by
  have haddr : ∀ (c : Bool) (m : Nibble), (0b1111111#7 ++ BitVec.ofBool c ++ m).toNat = 0xFE0 + 16 * c.toNat + m.toNat := by
    decide
  exact haddr s.cf (readHL s)

/-! ## The input/output instructions -/

/-- Settles O19: both forms store what the port shows over what the read leaves; the store itself is one `memWrite`. -/
theorem inputResults : Obligations.InputResults := by
  unfold Obligations.InputResults
  refine ⟨fun p hp s => ?_, ?_, ?_⟩
  · have hcolumn : p.toNat ∈ inPorts := by decide +revert
    have hread := portIn_eq hcolumn s
    exact ⟨⟨_, (exec_inPA_of_portIn hread).trans
        (congrArg Host.Outcome.next (advance_logicFlags_setAc_afterRead s p _ 2))⟩,
      ⟨_, _, (exec_inPHL_of_portIn hread).trans
        (congrArg Host.Outcome.next (advance_setSf_writeHL_afterRead s p _ 2)), wordStored_memWrite s (addrHL s) _⟩⟩
  · exact fun p => encodes_encode (.inPA p)
  · exact fun p => encodes_encode (.inPHL p)

/-- Settles O20: the three forms write the latch of one port, with A, the word at H.L or the immediate. -/
theorem outputLatchResults : Obligations.OutputLatchResults := by
  unfold Obligations.OutputLatchResults
  refine ⟨fun p hp s => ?_, fun p4 p => ?_, fun p4 p => ?_, ?_⟩
  · have hcolumn : p.toNat ∈ setClrPorts := by decide +revert
    have hwrite := portOut_latch hcolumn s
    rw [zero_append_eq_setWidth]
    exact ⟨exec_outAP_of_portOut (hwrite _), exec_outHLP_of_portOut (hwrite _), fun k => exec_outKP_of_portOut (hwrite k)⟩
  · rw [← encode_outAP_append]
    exact encodes_encode (.outAP (p4 ++ p))
  · rw [← encode_outHLP_append]
    exact encodes_encode (.outHLP (p4 ++ p))
  · exact fun k p => encodes_encode (.outKP k p)

/-- Settles O24: the address of the statement is the model's table address, and the two latches are written at once. -/
theorem outputTableResults : Obligations.OutputTableResults := by
  unfold Obligations.OutputTableResults
  refine ⟨fun s a ha => ?_, encodes_encode .outbHL⟩
  obtain rfl : a = addrPla s := BitVec.eq_of_toNat_eq (ha.trans (addrPla_toNat s).symm)
  exact congrArg Host.Outcome.next (advance_setSf (s.setPorts _) 1 true)

end Sys2Proof.Machine
end

section
/-! The branch and subroutine instructions and `NOP`: the words a call saves and a return takes back, and the next state
of each instruction. -/

namespace Sys2Proof.Machine

variable {s t : State}

/-! ## The words of a saved level (R37, R88 (f), R294) -/

/-- The four words of the level at SPW, and SPW itself, after a save there. -/
theorem memRead_stackSave_level (h : spw s ≠ 0xF) (n : RomAddr) (w : Nibble) :
    memRead (stackSave n w s) (stackAddr (spw s)) = n.extractLsb' 0 4 ∧
      memRead (stackSave n w s) (stackAddr (spw s) + 1#8) = n.extractLsb' 4 4 ∧
      memRead (stackSave n w s) (stackAddr (spw s) + 2#8) = n.extractLsb' 8 4 ∧
      memRead (stackSave n w s) (stackAddr (spw s) + 3#8) = w ∧ spw (stackSave n w s) = spw s - 1 := by
  have hread := fun b => memRead_stackSave s n w b h
  have hwords := stackAddr_distinct s (spw s) h
  obtain ⟨h03, h0⟩ := hwords 0 3 (by decide) (by decide)
  obtain ⟨h13, h1⟩ := hwords 1 3 (by decide) (by decide)
  obtain ⟨h23, h2⟩ := hwords 2 3 (by decide) (by decide)
  have h10 := (hwords 1 0 (by decide) (by decide)).1
  have h20 := (hwords 2 0 (by decide) (by decide)).1
  have h21 := (hwords 2 1 (by decide) (by decide)).1
  have h3 := (hwords 3 0 (by decide) (by decide)).2
  rw [BitVec.add_zero] at h03 h0 h10 h20
  refine ⟨?_, ?_, ?_, ?_, ?_⟩
  · rw [hread, if_neg h0, if_neg (h03 (by decide)), if_pos rfl]
  · rw [hread, if_neg h1, if_neg (h13 (by decide)), if_neg (h10 (by decide)), if_pos rfl]
  · rw [hread, if_neg h2, if_neg (h23 (by decide)), if_neg (h20 (by decide)), if_neg (h21 (by decide)), if_pos rfl]
  · rw [hread, if_neg h3, if_pos rfl]
  · exact (hread spwAddr).trans (if_pos rfl)

/-- A save writes the words of the level and SPW, and no other. -/
theorem onlyWords_stackSave (s : State) (n : RomAddr) (w : Nibble) :
    OnlyWords s (stackSave n w s).ram
      [stackAddr (spw s), stackAddr (spw s) + 1#8, stackAddr (spw s) + 2#8, stackAddr (spw s) + 3#8, spwAddr] := by
  obtain ⟨m, hm, honly⟩ := exists_writeWords_eq
    [(stackAddr (spw s), _), (stackAddr (spw s) + 1#8, _), (stackAddr (spw s) + 2#8, _), (stackAddr (spw s) + 3#8, w),
      (spwAddr, spw s - 1#4)] s
  have hsave : stackSave n w s = s.setRam m := hm
  rwa [hsave]

theorem stackAddr_toNat (level : Nibble) : (stackAddr level).toNat = 0xC0 + 4 * level.toNat := by
  decide +revert

/-! ## The calls (R289, R290) -/

theorem callTarget_toNat (a : BitVec 11) : (0#1 ++ a).toNat = a.toNat := by
  rw [BitVec.toNat_append]
  simp

theorem callsTarget_toNat (k : Nibble) :
    (if k = 0#4 then 0x086#12 else 8#12 * k.setWidth 12 + 6#12).toNat = if k = 0 then 0x086 else 8 * k.toNat + 6 := by
  decide +revert

/-- A call at an allowed level, with a free value for the fourth word (U9). -/
theorem exists_callTo_advance_eq (h : spw s ≠ 0xF) (target len : RomAddr) :
    ∃ w f, callTo target (advance len s) =
      .next { s with pc := target, ram := (stackSave (s.pc + len) w s).ram, freeCount := f } :=
  ⟨_, _, if_neg h⟩

/-- Settles O26: both calls are `callTo` with PC at the next instruction, and the words are those of the saved level. -/
theorem callResults : Obligations.CallResults := by
  unfold Obligations.CallResults
  refine ⟨fun s i n target hlevel hcall => ?_, fun a => encodes_encode (.call a), fun k => encodes_encode (.calls k)⟩
  have hexec : ∃ len, n = s.pc + len ∧ exec i s = callTo target (advance len s) := by
    obtain ⟨a, rfl, hn, htarget⟩ | ⟨k, rfl, hn, htarget⟩ := hcall
    · obtain rfl := BitVec.eq_of_toNat_eq (htarget.trans (callTarget_toNat a).symm)
      exact ⟨2, hn, rfl⟩
    · obtain rfl := BitVec.eq_of_toNat_eq (htarget.trans (callsTarget_toNat k).symm)
      exact ⟨1, hn, rfl⟩
  obtain ⟨len, rfl, hexec⟩ := hexec
  obtain ⟨w, f, hnext⟩ := exists_callTo_advance_eq hlevel target len
  obtain ⟨hlow, hmid, hhigh, -, hspw⟩ := memRead_stackSave_level hlevel (s.pc + len) w
  have hframe := stackSave_frame s (s.pc + len) w
  rw [hframe] at hlow hmid hhigh hspw
  exact ⟨_, f, hexec.trans hnext, stackAddr_toNat (spw s), hlow, hmid, hhigh, hspw, onlyWords_stackSave s _ w⟩

/-! ## The returns (R291, R292) -/

/-- A return where SPW is not E is not refused, and takes its words from the level above SPW, none of which it writes. -/
theorem restored_of_spw_ne (h : spw s ≠ 0xE) :
    restoreLevel s ≠ forbiddenLevel ∧ restoredPc s = readTriple s (stackAddr (spw s + 1)) ∧
      restoredWord s = memRead s (stackAddr (spw s + 1) + 3#8) := by
  have hlevel : ∀ level : Nibble, level ≠ 0xE → level + 1 ≠ 0xF := by decide
  exact ⟨hlevel _ h, restored_eq s (hlevel _ h)⟩

/-- Settles O27: the guard fails where SPW is not E, and SPW is not one of the words read. -/
theorem returnResults : Obligations.ReturnResults := by
  unfold Obligations.ReturnResults
  refine ⟨fun s base hspw hbase => ?_, encodes_encode .ret, encodes_encode .reti⟩
  subst hbase
  obtain ⟨hlevel, hpc, hword⟩ := restored_of_spw_ne hspw
  have hstored : WordStored s (stackRestore s).ram 0xFF (spw s + 1) := memRead_stackRestore s
  constructor
  · refine ⟨_, (if_neg hlevel).trans ?_, hstored⟩
    rw [hpc]
    rfl
  · refine ⟨_, (if_neg hlevel).trans ?_, hstored⟩
    rw [returnFromInterrupt_frame, hpc, hword]
    rfl

/-! ## A call and its return -/

/-- A call that has a next state is at an allowed level. -/
theorem spw_ne_of_call {i : Instr} (hi : (∃ a, i = .call a) ∨ ∃ k, i = .calls k) (h : exec i s = .next t) :
    spw s ≠ 0xF := by
  intro hlevel
  obtain ⟨hcall, hcalls⟩ := stackLevelFStops.1 s hlevel
  obtain ⟨a, rfl⟩ | ⟨k, rfl⟩ := hi
  · cases (hcall a).symm.trans h
  · cases (hcalls k).symm.trans h

/-- A return to a level that holds an address goes to that address, and leaves SPW at that level. -/
theorem exec_ret_of_saved {level : Nibble} {n : RomAddr} (hlevel : level ≠ 0xF) (hspw : spw s = level - 1)
    (hlow : memRead s (stackAddr level) = n.extractLsb' 0 4)
    (hmid : memRead s (stackAddr level + 1) = n.extractLsb' 4 4)
    (hhigh : memRead s (stackAddr level + 2) = n.extractLsb' 8 4) :
    ∃ m, exec .ret s = .next { s with pc := n, ram := m } ∧ spw (s.setRam m) = level := by
  have hbelow : ∀ l : Nibble, l ≠ 0xF → l - 1 ≠ 0xE := by decide
  have hup : spw s + 1 = level := by rw [hspw, BitVec.sub_add_cancel]
  have hnotE : spw s ≠ 0xE := hspw ▸ hbelow level hlevel
  obtain ⟨⟨m, hret, hstored⟩, -⟩ := returnResults.1 s _ hnotE (congrArg stackAddr hup.symm)
  rw [hlow, hmid, hhigh, triple_append] at hret
  exact ⟨m, hret, ((hstored 0xFF).trans (if_pos rfl)).trans hup⟩

/-- The target of a call, with the address of the next instruction by the length of the call. -/
theorem exists_callTarget {i : Instr} (hi : (∃ a, i = .call a) ∨ ∃ k, i = .calls k) (s : State) :
    ∃ target : RomAddr,
      (∃ a, i = .call a ∧ s.pc + BitVec.ofNat 12 (instrLength i) = s.pc + 2 ∧ target.toNat = a.toNat) ∨
        ∃ k, i = .calls k ∧ s.pc + BitVec.ofNat 12 (instrLength i) = s.pc + 1 ∧
          target.toNat = if k = 0 then 0x086 else 8 * k.toNat + 6 := by
  obtain ⟨a, rfl⟩ | ⟨k, rfl⟩ := hi
  · exact ⟨_, .inl ⟨a, rfl, rfl, callTarget_toNat a⟩⟩
  · exact ⟨_, .inr ⟨k, rfl, rfl, callsTarget_toNat k⟩⟩

/-- Settles O28: the return reads the level that the call saved; neither instruction writes a flag. -/
theorem returnUndoesCall : Obligations.ReturnUndoesCall := by
  unfold Obligations.ReturnUndoesCall
  intro s t i hi hexec
  have hlevel := spw_ne_of_call hi hexec
  obtain ⟨target, hcall⟩ := exists_callTarget hi s
  obtain ⟨m, f, hnext, -, hlow, hmid, hhigh, hspw, -⟩ := callResults.1 s i _ target hlevel hcall
  obtain rfl := Host.Outcome.next.inj (hexec.symm.trans hnext)
  obtain ⟨m', hret, hback⟩ :=
    exec_ret_of_saved (s := { s with pc := target, ram := m, freeCount := f }) hlevel hspw hlow hmid hhigh
  exact ⟨_, hret, rfl, hback, rfl, rfl, rfl, rfl⟩

/-! ## The branches and `NOP` (R285, R287, R288, R293) -/

theorem branchTo_advance (s : State) (target len : RomAddr) :
    branchTo target (advance len s) = { s with pc := if s.sf then target else s.pc + len, sf := true } := by
  have hsf : (advance len s).sf = s.sf := rfl
  rw [branchTo, hsf]
  split <;> rfl

/-- Settles O25: both branches are `branchTo` with PC at the next instruction. -/
theorem branchAndNopResults : Obligations.BranchAndNopResults := by
  unfold Obligations.BranchAndNopResults
  refine ⟨fun s a => ?_, fun s d => ?_, fun s => rfl, ?_, ?_, ?_⟩
  · exact congrArg Host.Outcome.next (branchTo_advance s a 2)
  · exact congrArg Host.Outcome.next (branchTo_advance s _ 1)
  · exact fun a => encodes_encode (.bs a)
  · exact fun d => encodes_encode (.bss d)
  · exact encodes_encode .nop

end Sys2Proof.Machine
end

section
/-! The interrupt control under an instruction, the factor a decision point accepts, and an acceptance with its
return. -/

namespace Sys2Proof.Machine

variable {s t : State}

/-! ## Instructions whose access to a port is allowed have a next state (R80, R82, R371) -/

/-- The ports of an output with a 5-bit field, the serial command register first. -/
theorem outPort_cases {p : PortAddr} (hp : p.toNat ∈ outPorts) :
    p = 0x1F ∨ p = 0x01 ∨ p = 0x02 ∨ p = 0x04 ∨ p = 0x05 ∨ p = 0x06 ∨ p = 0x07 ∨ p = 0x08 ∨ p = 0x09 ∨ p = 0x0F ∨
      p = 0x19 ∨ p = 0x1C ∨ p = 0x1D := by
  decide +revert

/-- The command that would enable mode 00 is 8 or 9 (R371, U7). -/
theorem enablesUnusable_iff (v : Nibble) : (esio v && serialMode v == .unusable) = true ↔ v = 0x8 ∨ v = 0x9 := by
  decide +revert

theorem exists_writeSerialCommand_eq {v : Nibble} (hv : v ≠ 0x8 ∧ v ≠ 0x9) (s : State) :
    ∃ t, writeSerialCommand v s = .ok t := by
  have hguard : ¬(esio v && serialMode v == .unusable) = true := by
    rw [enablesUnusable_iff]
    exact not_or.mpr hv
  exact ⟨_, if_neg hguard⟩

theorem exists_portOut_eq {p : PortAddr} {v : Nibble} (hp : p.toNat ∈ outPorts) (hv : p = 0x1F → v ≠ 0x8 ∧ v ≠ 0x9)
    (s : State) : ∃ t, portOut p v s = .ok t := by
  obtain rfl | rfl | rfl | rfl | rfl | rfl | rfl | rfl | rfl | rfl | rfl | rfl | rfl := outPort_cases hp
  · exact exists_writeSerialCommand_eq (hv rfl) s
  all_goals exact ⟨_, rfl⟩

/-- A port of the immediate output, in the 5-bit field of the others. -/
theorem outImmPort_mem_outPorts {p : Nibble} (hp : p.toNat ∈ outImmPorts) :
    (p.setWidth 5).toNat ∈ outPorts ∧ p.setWidth 5 ≠ 0x1F#5 := by
  decide +revert

/-- Settles O31: each access to a port its column marks answers, and each guard of the stack fails. -/
theorem otherwiseExecCompletes : Obligations.OtherwiseExecCompletes := by
  unfold Obligations.OtherwiseExecCompletes
  intro i s hwf hcall hret hoa hohl
  cases i with
  | testPB p b => exact ⟨_, exec_testPB_of_portTest (portTest_eq (List.contains_iff_mem.mp hwf) s)⟩
  | testpPB p b => exact ⟨_, exec_testpPB_of_portTest (portTest_eq (List.contains_iff_mem.mp hwf) s)⟩
  | testL => exact ⟨_, exec_testL_of_portTest (portTest_eq (setClrPort_tested (portOfL_mem_setClrPorts s)).1 s)⟩
  | setPB p b => exact ⟨_, exec_setPB_of_updateLatch (updateLatch_eq (List.contains_iff_mem.mp hwf) s _)⟩
  | clrPB p b => exact ⟨_, exec_clrPB_of_updateLatch (updateLatch_eq (List.contains_iff_mem.mp hwf) s _)⟩
  | setL => exact ⟨_, exec_setL_of_updateLatch (updateLatch_eq (portOfL_mem_setClrPorts s) s _)⟩
  | clrL => exact ⟨_, exec_clrL_of_updateLatch (updateLatch_eq (portOfL_mem_setClrPorts s) s _)⟩
  | inPA p => exact ⟨_, exec_inPA_of_portIn (portIn_eq (List.contains_iff_mem.mp hwf) s)⟩
  | inPHL p => exact ⟨_, exec_inPHL_of_portIn (portIn_eq (List.contains_iff_mem.mp hwf) s)⟩
  | outAP p =>
    obtain ⟨t, ht⟩ := exists_portOut_eq (List.contains_iff_mem.mp hwf) (fun hp => hoa (congrArg _ hp)) s
    exact ⟨_, exec_outAP_of_portOut ht⟩
  | outHLP p =>
    obtain ⟨t, ht⟩ := exists_portOut_eq (List.contains_iff_mem.mp hwf) (fun hp => hohl (congrArg _ hp)) s
    exact ⟨_, exec_outHLP_of_portOut ht⟩
  | outKP k p =>
    obtain ⟨hport, hserial⟩ := outImmPort_mem_outPorts (List.contains_iff_mem.mp hwf)
    obtain ⟨t, ht⟩ := exists_portOut_eq (v := k) hport (fun hp => absurd hp hserial) s
    exact ⟨_, exec_outKP_of_portOut ht⟩
  | call a => exact ⟨_, if_neg (hcall (.inl ⟨a, rfl⟩))⟩
  | calls n => exact ⟨_, if_neg (hcall (.inr ⟨n, rfl⟩))⟩
  | ret => exact ⟨_, if_neg (restored_of_spw_ne (hret (.inl rfl))).1⟩
  | reti => exact ⟨_, if_neg (restored_of_spw_ne (hret (.inr rfl))).1⟩
  | _ => exact ⟨_, rfl⟩

/-! ## Who writes the interrupt control (R305, R308, R378) -/

/-- A read of a port writes no latch, or is one of the serial buffer that raises a request. -/
theorem portIn_intl {p v : Nibble} (h : portIn p s = .ok (v, t)) :
    t.intl = s.intl ∨ (p = 0xF#4 ∧ t.intl = (setLatch .isio s).intl) := by
  by_cases hp : p = 0xF#4
  · obtain hkept | hraised := (portIn_serialOnly h).latch
    · exact .inl hkept
    · exact .inr ⟨hp, hraised⟩
  · unfold portIn at h
    split at h
    case h_11 hport => exact absurd (BitVec.eq_of_toNat_eq hport) hp
    case h_12 => cases h
    all_goals
      cases h
      exact .inl rfl

theorem portTest_intl {p v : Nibble} (h : portTest p s = .ok (v, t)) : t.intl = s.intl := by
  refine (portIn_intl (portIn_of_portTest h)).resolve_right ?_
  rintro ⟨rfl, -⟩
  cases h

/-- A write of a port writes no latch, or is one of the serial command that raises a request. -/
theorem portOut_intl {p : PortAddr} {v : Nibble} (h : portOut p v s = .ok t) :
    t.intl = s.intl ∨ (p = 0x1F#5 ∧ t.intl = (setLatch .isio s).intl) := by
  unfold portOut at h
  split at h
  case h_9 =>
    cases h
    unfold writeSerialBuffer
    split <;> exact .inl rfl
  case h_14 hport =>
    obtain rfl : p = 0x1F#5 := BitVec.eq_of_toNat_eq hport
    unfold writeSerialCommand at h
    split at h
    · cases h
    · cases h
      split
      · obtain hkept | hraised := (scrambleSerial_serialOnly _).latch
        · exact .inl hkept
        · exact .inr ⟨rfl, hraised⟩
      · exact .inl rfl
  case h_10 | h_15 => cases h
  all_goals
    cases h
    exact .inl rfl

/-- A write of the serial command register is no output of an immediate. -/
theorem setWidth_ne_serialCommand (p : Nibble) : p.setWidth 5 ≠ 0x1F#5 := by
  decide +revert

/-- Each of EIF, EIR and the interrupt latches is as it was, or `i` is of the kind that writes it so. -/
structure ControlKeptOrWritten (i : Instr) (s t : State) : Prop where
  eif : t.eif = s.eif ∨ (t.eif = true ∧ (i = .reti ∨ ∃ r, i = .eiclrIL r)) ∨ (t.eif = false ∧ ∃ r, i = .diclrIL r)
  eir : t.eir = s.eir ∨ i = .xchAEIR
  intl : t.intl = s.intl ∨ (∃ r, t.intl = s.intl &&& r ∧ (i = .clrIL r ∨ i = .eiclrIL r ∨ i = .diclrIL r)) ∨
    (t.intl = (setLatch .isio s).intl ∧ (i = .inPA 0xF ∨ i = .inPHL 0xF ∨ i = .outAP 0x1F ∨ i = .outHLP 0x1F))

theorem ControlKeptOrWritten.of_kept {i : Instr} (heif : t.eif = s.eif) (heir : t.eir = s.eir)
    (hintl : t.intl = s.intl) : ControlKeptOrWritten i s t :=
  ⟨.inl heif, .inl heir, .inl hintl⟩

/-- An access of a port keeps EIF and EIR; it keeps the latches but for the two accesses of the serial port. -/
theorem ControlKeptOrWritten.of_access {i : Instr} {access : Prop} (heif : t.eif = s.eif) (heir : t.eir = s.eir)
    (hintl : t.intl = s.intl ∨ (access ∧ t.intl = (setLatch .isio s).intl))
    (hi : access → i = .inPA 0xF ∨ i = .inPHL 0xF ∨ i = .outAP 0x1F ∨ i = .outHLP 0x1F) :
    ControlKeptOrWritten i s t :=
  ⟨.inl heif, .inl heir, hintl.imp_right fun ⟨hp, hraised⟩ => .inr ⟨hraised, hi hp⟩⟩

theorem portIn_eif_eir {p v : Nibble} (h : portIn p s = .ok (v, t)) : t.eif = s.eif ∧ t.eir = s.eir := by
  rw [portIn_frame s p v t h]
  simp

theorem portOut_eif_eir {p : PortAddr} {v : Nibble} (h : portOut p v s = .ok t) : t.eif = s.eif ∧ t.eir = s.eir := by
  rw [portOut_frame s p v t h]
  simp

theorem branchTo_control (s : State) (target : RomAddr) :
    (branchTo target s).eif = s.eif ∧ (branchTo target s).eir = s.eir ∧ (branchTo target s).intl = s.intl := by
  unfold branchTo
  split <;> exact ⟨rfl, rfl, rfl⟩

theorem exec_controlKeptOrWritten {i : Instr} (h : exec i s = .next t) : ControlKeptOrWritten i s t := by
  cases i with
  | testPB p b | testpPB p b | testL =>
    obtain ⟨v, u, hread, rfl⟩ := next_of_read h
    obtain ⟨heif, heir⟩ := portIn_eif_eir (portIn_of_portTest hread)
    have hintl := portTest_intl hread
    exact .of_kept heif heir hintl
  | inPA p | inPHL p =>
    obtain ⟨v, u, hread, rfl⟩ := next_of_read h
    obtain ⟨heif, heir⟩ := portIn_eif_eir hread
    have hintl := portIn_intl hread
    exact .of_access heif heir hintl (by rintro rfl; simp)
  | outAP p | outHLP p =>
    obtain ⟨u, hwrite, rfl⟩ := next_of_write h
    obtain ⟨heif, heir⟩ := portOut_eif_eir hwrite
    have hintl := portOut_intl hwrite
    exact .of_access heif heir hintl (by rintro rfl; simp)
  | outKP k p =>
    obtain ⟨u, hwrite, rfl⟩ := next_of_write h
    obtain ⟨heif, heir⟩ := portOut_eif_eir hwrite
    have hintl := portOut_intl hwrite
    exact .of_access heif heir hintl fun hp => absurd hp (setWidth_ne_serialCommand p)
  | setPB p b | clrPB p b | setL | clrL =>
    obtain ⟨u, hwrite, rfl⟩ := next_of_write h
    rw [updateLatch_frame s _ _ u hwrite]
    exact .of_kept rfl rfl rfl
  | call a | calls n | ret =>
    obtain ⟨-, rfl⟩ := next_of_guard h
    exact .of_kept rfl rfl rfl
  | reti =>
    obtain ⟨-, rfl⟩ := next_of_guard h
    exact ⟨.inr (.inl ⟨rfl, .inl rfl⟩), .inl rfl, .inl rfl⟩
  | clrIL r =>
    obtain rfl := Host.Outcome.next.inj h
    exact ⟨.inl rfl, .inl rfl, .inr (.inl ⟨r, rfl, .inl rfl⟩)⟩
  | eiclrIL r =>
    obtain rfl := Host.Outcome.next.inj h
    exact ⟨.inr (.inl ⟨rfl, .inr ⟨r, rfl⟩⟩), .inl rfl, .inr (.inl ⟨r, rfl, .inr (.inl rfl)⟩)⟩
  | diclrIL r =>
    obtain rfl := Host.Outcome.next.inj h
    exact ⟨.inr (.inr ⟨rfl, r, rfl⟩), .inl rfl, .inr (.inl ⟨r, rfl, .inr (.inr rfl)⟩)⟩
  | xchAEIR =>
    obtain rfl := Host.Outcome.next.inj h
    exact ⟨.inl rfl, .inr rfl, .inl rfl⟩
  | bs a | bss d =>
    obtain rfl := Host.Outcome.next.inj h
    obtain ⟨heif, heir, hintl⟩ := branchTo_control _ _
    exact .of_kept heif heir hintl
  | _ =>
    obtain rfl := Host.Outcome.next.inj h
    apply ControlKeptOrWritten.of_kept <;>
      simp [advance, sumFlags_eq, differenceFlags_eq, logicFlags_eq, compareFlags_eq, compareFlagsCf_eq, rotateFlags_eq,
        loadAc_eq, incrementL, decrementL, writeHL, writeTriple, memWrite_eq]

/-- Settles O38: a register that differs has been written by one of its writers; bit by bit for the latches. -/
theorem interruptControlWriters : Obligations.InterruptControlWriters := by
  unfold Obligations.InterruptControlWriters
  intro i s t h
  obtain ⟨heif, heir, hintl⟩ := exec_controlKeptOrWritten h
  refine ⟨fun hset => ?_, fun hreset => ?_, heir.resolve_left, fun j hj => ?_⟩
  · obtain hkept | ⟨-, hi⟩ | ⟨hfalse, -⟩ := heif
    · exact .inl (hkept ▸ hset)
    · exact .inr hi
    · exact absurd (hset.symm.trans hfalse) Bool.true_eq_false.mp
  · obtain hkept | ⟨htrue, -⟩ | ⟨-, hi⟩ := heif
    · exact .inl (hkept ▸ hreset)
    · exact absurd (htrue.symm.trans hreset) Bool.true_eq_false.mp
    · exact .inr hi
  · obtain hkept | ⟨r, hmask, hi⟩ | ⟨hraised, hi⟩ := hintl
    · rw [hkept]
      exact ⟨.inl, .inl⟩
    · rw [hmask, BitVec.getLsbD_and]
      exact ⟨fun hset => .inl (Bool.and_eq_true_iff.mp hset).1, fun _ => .inr ⟨r, hi⟩⟩
    · rw [hraised, setLatch_bit s .isio j hj]
      refine ⟨fun hset => ?_, fun hset => .inl (by rw [hset, Bool.true_or])⟩
      exact (Bool.or_eq_true_iff.mp hset).imp_right fun hfour => ⟨of_decide_eq_true hfour, hi⟩

/-! ## The factor accepted (R301, R302, R303) -/

/-- In a list in falling order of `key`, the first element with a property is the one of greatest `key`. -/
theorem find?_eq_some_iff_of_descending {α : Type} {key : α → Nat} {p : α → Bool} {l : List α} {f : α}
    (hl : l.Pairwise fun a b => key b < key a) :
    l.find? p = some f ↔ f ∈ l ∧ p f = true ∧ ∀ g ∈ l, key f < key g → ¬p g = true := by
  induction hl with
  | nil => simp
  | @cons a rest ha hrest ih =>
    by_cases hp : p a = true
    · rw [List.find?_cons_of_pos hp, Option.some_inj]
      constructor
      · rintro rfl
        refine ⟨List.mem_cons_self, hp, List.forall_mem_cons.mpr ⟨fun h => absurd h (Nat.lt_irrefl _), fun g hg h => ?_⟩⟩
        exact absurd (Nat.lt_trans h (ha g hg)) (Nat.lt_irrefl _)
      · rintro ⟨hf, -, hnone⟩
        obtain rfl | hf := List.mem_cons.mp hf
        · rfl
        · exact absurd hp (hnone a List.mem_cons_self (ha f hf))
    · rw [List.find?_cons_of_neg hp, ih]
      constructor
      · rintro ⟨hf, hpf, hnone⟩
        exact ⟨List.mem_cons_of_mem _ hf, hpf, List.forall_mem_cons.mpr ⟨fun _ => hp, hnone⟩⟩
      · rintro ⟨hf, hpf, hnone⟩
        have hne : f ≠ a := fun h => hp (h ▸ hpf)
        exact ⟨(List.mem_cons.mp hf).resolve_left hne, hpf, fun g hg => hnone g (List.mem_cons_of_mem _ hg)⟩

theorem factorsByPriority_descending : factorsByPriority.Pairwise fun f g => factorLatch g < factorLatch f := by
  decide

theorem mem_factorsByPriority (f : Factor) : f ∈ factorsByPriority := by
  cases f <;> decide

theorem pendingFactor_eq_some_iff (s : State) (f : Factor) :
    pendingFactor s = some f ↔
      s.intl.getLsbD (factorLatch f) = true ∧ factorEnabled s f = true ∧
        ∀ g, factorLatch f < factorLatch g → ¬(s.intl.getLsbD (factorLatch g) = true ∧ factorEnabled s g = true) := by
  rw [pendingFactor, find?_eq_some_iff_of_descending factorsByPriority_descending]
  simp only [mem_factorsByPriority, true_and, forall_const, Bool.and_eq_true, and_assoc]

/-- Settles O43: the six factors are listed in falling order of their latches. -/
theorem priorityAndEnable : Obligations.PriorityAndEnable :=
  ⟨pendingFactor_eq_some_iff, fun _ => ⟨rfl, rfl, rfl, rfl, rfl, rfl⟩, ⟨rfl, rfl, rfl, rfl, rfl, rfl⟩⟩

/-! ## An acceptance and the return from it (R310, R311, R312) -/

theorem factorVector_eq (f : Factor) : factorVector f = BitVec.ofNat 12 (0x00C - 2 * factorLatch f) := by
  cases f <;> rfl

/-- The acceptance as one equation: what it saves, the vector, SF, EIF and the latch. -/
theorem acceptInterrupt_eq (f : Factor) (s : State) :
    acceptInterrupt f s =
      { s with
        pc := BitVec.ofNat 12 (0x00C - 2 * factorLatch f)
        ram := (stackSave s.pc (flagWord s) s).ram
        sf := true
        eif := false
        intl := (clearLatch f s).intl } := by
  rw [acceptInterrupt_frame, factorVector_eq]
  simp only [clearLatch, State.setRam, State.setPc, State.setSf, State.setEif, State.setIntl]

/-- Settles O44: the save of PC and the flag word, with the registers of the other four actions. -/
theorem acceptanceResult : Obligations.AcceptanceResult := by
  unfold Obligations.AcceptanceResult
  rintro s f base hlevel rfl
  obtain ⟨hlow, hmid, hhigh, hflags, hspw⟩ := memRead_stackSave_level hlevel s.pc (flagWord s)
  rw [stackSave_frame] at hlow hmid hhigh hflags hspw
  exact ⟨_, _, acceptInterrupt_eq f s, clearLatch_bit s f, hlow, hmid, hhigh, hflags, hspw, onlyWords_stackSave s _ _⟩

/-- Settles O45: the return reads the level that the acceptance saved. -/
theorem retiUndoesAcceptance : Obligations.RetiUndoesAcceptance := by
  unfold Obligations.RetiUndoesAcceptance
  intro s f hlevel
  obtain ⟨m, l, haccept, -, hlow, hmid, hhigh, hflags, hspw, -⟩ := acceptanceResult s f _ hlevel rfl
  have hspw' : spw (acceptInterrupt f s) = spw s - 1 := by
    rw [haccept]
    exact hspw
  have hup : spw (acceptInterrupt f s) + 1 = spw s := by rw [hspw', BitVec.sub_add_cancel]
  have hbelow : ∀ level : Nibble, level ≠ 0xF → level - 1 ≠ 0xE := by decide
  obtain ⟨-, m', hreti, hstored⟩ :=
    returnResults.1 (acceptInterrupt f s) (stackAddr (spw s)) (hspw' ▸ hbelow _ hlevel) (congrArg stackAddr hup.symm)
  have hread : ∀ a, memRead (acceptInterrupt f s) a = memRead (s.setRam m) a := by
    rw [haccept]
    exact fun a => rfl
  obtain ⟨hcf, hzf, hsf, hgf⟩ := flagWord_bits s
  have hword : memRead (s.setRam m) (stackAddr (spw s) + 3) = flagWord s := hflags
  rw [hread, hread, hread, hread, hlow, hmid, hhigh, triple_append, hword, hcf, hzf, hsf, hgf] at hreti
  refine ⟨_, hreti, rfl, rfl, rfl, rfl, rfl, ((hstored 0xFF).trans (if_pos rfl)).trans hup, rfl, ?_⟩
  rw [haccept]
  exact ⟨rfl, rfl, rfl, rfl⟩

end Sys2Proof.Machine
end

section
/-! One cycle of the peripherals, part by part; the count operations; and the requests that follow an instruction. -/

namespace Sys2Proof.Machine

variable {s t : State}

/-! ## The serial port's share of a cycle -/

theorem SerialOnly.cntl (h : SerialOnly s t) : t.cntl1 = s.cntl1 ∧ t.cntl2 = s.cntl2 := by
  rw [h.frame]
  simp

/-- The serial port by itself changes no latch but INTL4. -/
theorem SerialOnly.intl_bit (h : SerialOnly s t) {j : Nat} (hj : j < 6) (hne : j ≠ 4) :
    t.intl.getLsbD j = s.intl.getLsbD j := by
  obtain hkept | hraised := h.latch
  · rw [hkept]
  · have hbit := setLatch_bit s .isio j hj
    rw [decide_eq_false (p := j = factorLatch .isio) hne, Bool.or_false] at hbit
    rw [hraised]
    exact hbit

/-- The serial port by itself resets no latch. -/
theorem SerialOnly.intl_mono (h : SerialOnly s t) {j : Nat} (hset : s.intl.getLsbD j = true) :
    t.intl.getLsbD j = true := by
  obtain hkept | hraised := h.latch
  · rw [hkept, hset]
  · rw [hraised, BitVec.getLsbD_or, hset, Bool.true_or]

/-! ## The parts of a cycle before the serial port (R340 steps 2, 3, 4) -/

/-- A factor's event sets its latch and leaves the others (R304). -/
theorem setLatch_if_bit (s : State) (c : Bool) (f : Factor) {j : Nat} (hj : j < 6) :
    (if c then setLatch f s else s).intl.getLsbD j = (s.intl.getLsbD j || (decide (j = factorLatch f) && c)) := by
  cases c
  · simp
  · simpa using setLatch_bit s f j hj

theorem tickDividerInterrupt_bit (s : State) (next : BitVec 19) {j : Nat} (hj : j < 6) :
    (tickDividerInterrupt next s).intl.getLsbD j =
      (s.intl.getLsbD j ||
        (decide (j = 1) && (s.cmds.cmd19.getLsbD 2 && rises (timerStage s.cmds.cmd19) s.divider next))) :=
  setLatch_if_bit s _ .itmr hj

theorem tickPinInterrupts_bit (s : State) (now : EdgePins) {j : Nat} (hj : j < 6) :
    (tickPinInterrupts now s).intl.getLsbD j =
      (s.intl.getLsbD j || (decide (j = 5) && (s.prev.r82 && !now.r82)) ||
        (decide (j = 0) && (s.prev.r80 && !now.r80))) := by
  have hframe : (if s.prev.r82 && !now.r82 then setLatch .int1 s else s).prev = s.prev := by
    split <;> rfl
  refine (setLatch_if_bit _ _ .int2 hj).trans ?_
  rw [setLatch_if_bit s _ .int1 hj]
  rfl

/-- The state in which a cycle's serial step finds the machine. -/
def beforeSerial (s : State) : State :=
  tickCountPulses (s.divider + 1#19) (edgePins s)
    (tickPinInterrupts (edgePins s) (tickDividerInterrupt (s.divider + 1#19) s))

theorem tick_eq (s : State) :
    tick s =
      ((serialTick (s.divider + 1#19) (edgePins s) ((pinsR9 s).getLsbD 0) (beforeSerial s)).setDivider
        (s.divider + 1#19)).setPrev (edgePins s) := rfl

theorem beforeSerial_eq (s : State) :
    beforeSerial s =
      ((s.setIntl (beforeSerial s).intl).setCntl1
        (s.cntl1 || countPulse s.cmds.cmd1C s.divider (s.divider + 1#19) s.prev.r83 (edgePins s).r83)).setCntl2
        (s.cntl2 || countPulse s.cmds.cmd1D s.divider (s.divider + 1#19) s.prev.r81 (edgePins s).r81) := by
  unfold beforeSerial
  rw [tickCountPulses_frame, tickPinInterrupts_frame, tickDividerInterrupt_frame]
  simp

theorem beforeSerial_bit (s : State) {j : Nat} (hj : j < 6) :
    (beforeSerial s).intl.getLsbD j =
      (s.intl.getLsbD j ||
        (decide (j = 1) && (s.cmds.cmd19.getLsbD 2 && rises (timerStage s.cmds.cmd19) s.divider (s.divider + 1#19))) ||
        (decide (j = 5) && (s.prev.r82 && !(edgePins s).r82)) ||
        (decide (j = 0) && (s.prev.r80 && !(edgePins s).r80))) := by
  have hprev : (tickDividerInterrupt (s.divider + 1#19) s).prev = s.prev := by
    rw [tickDividerInterrupt_frame]
    rfl
  refine (tickPinInterrupts_bit _ _ hj).trans ?_
  rw [tickDividerInterrupt_bit s _ hj, hprev]

/-! ## A cycle, field by field -/

theorem tick_serialOnly (s : State) :
    SerialOnly (beforeSerial s) (serialTick (s.divider + 1#19) (edgePins s) ((pinsR9 s).getLsbD 0) (beforeSerial s)) :=
  serialTick_serialOnly _ _ _ _

theorem tick_intl_bit (s : State) {j : Nat} (hj : j < 6) (hne : j ≠ 4) :
    (tick s).intl.getLsbD j = (beforeSerial s).intl.getLsbD j :=
  (tick_serialOnly s).intl_bit hj hne

theorem tick_intl_mono (s : State) {j : Nat} (hj : j < 6) (hset : s.intl.getLsbD j = true) :
    (tick s).intl.getLsbD j = true := by
  refine (tick_serialOnly s).intl_mono ?_
  simp [beforeSerial_bit s hj, hset]

theorem tick_cntl1 (s : State) :
    (tick s).cntl1 =
      (s.cntl1 || countPulse s.cmds.cmd1C s.divider (s.divider + 1#19) s.prev.r83 (edgePins s).r83) := by
  refine (tick_serialOnly s).cntl.1.trans ?_
  rw [beforeSerial_eq]
  rfl

theorem tick_cntl2 (s : State) :
    (tick s).cntl2 =
      (s.cntl2 || countPulse s.cmds.cmd1D s.divider (s.divider + 1#19) s.prev.r81 (edgePins s).r81) := by
  refine (tick_serialOnly s).cntl.2.trans ?_
  rw [beforeSerial_eq]
  rfl

theorem exists_tick_eq (s : State) :
    ∃ l q c1 c2 n, tick s =
      { s with
        intl := l, sio := q, cntl1 := c1, cntl2 := c2, freeCount := n, divider := s.divider + 1#19,
        prev := edgePins s } := by
  have hserial := (tick_serialOnly s).frame
  rw [tick_eq]
  generalize serialTick _ _ _ _ = u at hserial
  generalize u.sio = q, u.intl = l, u.freeCount = n at hserial
  subst hserial
  rw [beforeSerial_eq]
  generalize (s.cntl1 || _) = c1, (s.cntl2 || _) = c2
  refine ⟨l, q, c1, c2, n, ?_⟩
  simp only [State.setIntl, State.setSio, State.setCntl1, State.setCntl2, State.setFreeCount, State.setDivider,
    State.setPrev]

/-- Everything a cycle can change. -/
theorem tick_frame (s : State) :
    tick s =
      { s with
        intl := (tick s).intl, sio := (tick s).sio, cntl1 := (tick s).cntl1, cntl2 := (tick s).cntl2,
        freeCount := (tick s).freeCount, divider := s.divider + 1#19, prev := edgePins s } := by
  obtain ⟨l, q, c1, c2, n, htick⟩ := exists_tick_eq s
  rw [htick]

theorem tick_cmds (s : State) : (tick s).cmds = s.cmds := by
  rw [tick_frame]

/-- Settles O46: the latches of the two overflows are none of those that a part of a cycle sets. -/
theorem tickFrame : Obligations.TickFrame := by
  unfold Obligations.TickFrame
  intro s
  refine ⟨_, _, _, _, _, tick_frame s, fun j hj => tick_intl_mono s hj, ?_, ?_, fun hset => ?_, fun hset => ?_⟩
  · rw [tick_intl_bit s (by decide) (by decide), beforeSerial_bit s (by decide)]
    simp
  · rw [tick_intl_bit s (by decide) (by decide), beforeSerial_bit s (by decide)]
    simp
  · rw [tick_cntl1, hset, Bool.true_or]
  · rw [tick_cntl2, hset, Bool.true_or]

/-! ## The interrupt pins and the count pulses (R84, R345, R361, R362) -/

theorem edgePins_r8 (s : State) :
    (edgePins s).r82 = (s.ports.r8.getLsbD 2 && s.env.r8.getLsbD 2) ∧
      (edgePins s).r80 = (s.ports.r8.getLsbD 0 && s.env.r8.getLsbD 0) ∧
      (edgePins s).r83 = (s.ports.r8.getLsbD 3 && s.env.r8.getLsbD 3) ∧
      (edgePins s).r81 = (s.ports.r8.getLsbD 1 && s.env.r8.getLsbD 1) :=
  ⟨BitVec.getLsbD_and, BitVec.getLsbD_and, BitVec.getLsbD_and, BitVec.getLsbD_and⟩

/-- Settles O47: of the parts of a cycle only the pin step reaches INTL5 and INTL0. -/
theorem pinEdgeInterrupts : Obligations.PinEdgeInterrupts := by
  unfold Obligations.PinEdgeInterrupts
  intro s
  obtain ⟨hr82, hr80, -, -⟩ := edgePins_r8 s
  rw [← hr82, ← hr80, tick_intl_bit s (by decide) (by decide), tick_intl_bit s (by decide) (by decide),
    beforeSerial_bit s (by decide), beforeSerial_bit s (by decide)]
  simp

/-- The count pulse by the two mode bits of the command (R361, R362). -/
theorem countPulse_eq (cmd : Nibble) (c next : BitVec 19) (before now : Bool) :
    countPulse cmd c next before now =
      match (cmd.extractLsb' 2 2).toNat with
      | 0 => false
      | 1 => !before && now
      | 2 => !c.getLsbD (pulseStage cmd) && next.getLsbD (pulseStage cmd)
      | _ => !(c.getLsbD (pulseStage cmd) && before) && (next.getLsbD (pulseStage cmd) && now) := by
  unfold countPulse timerMode
  match (cmd.extractLsb' 2 2).toNat with
  | 0 | 1 | 2 | _ + 3 => rfl

/-- Settles O49: each channel has its own command, stage and pin. -/
theorem countPulseResults : Obligations.CountPulseResults := by
  unfold Obligations.CountPulseResults
  refine ⟨?_, ?_⟩
  · rintro s k pin stage stageNext rfl rfl rfl rfl
    obtain ⟨-, -, hr83, -⟩ := edgePins_r8 s
    rw [tick_cntl1, countPulse_eq, hr83]
    rfl
  · rintro s k pin stage stageNext rfl rfl rfl rfl
    obtain ⟨-, -, -, hr81⟩ := edgePins_r8 s
    rw [tick_cntl2, countPulse_eq, hr81]
    rfl

/-! ## The divider interrupt (R351, R352) -/

theorem ticks_succ_eq_tick (s : State) (n : Nat) : ticks (n + 1) s = tick (ticks n s) :=
  ticks_add s n 1

theorem ticks_divider (s : State) (n : Nat) : (ticks n s).divider = s.divider + BitVec.ofNat 19 n := by
  induction n with
  | zero => exact (BitVec.add_zero _).symm
  | succ n ih => rw [ticks_succ_eq_tick, tick_divider, ih, BitVec.add_assoc, ← BitVec.ofNat_add]

theorem ticks_cmds (s : State) (n : Nat) : (ticks n s).cmds = s.cmds := by
  induction n with
  | zero => rfl
  | succ n ih => rw [ticks_succ_eq_tick, tick_cmds, ih]

theorem tick_intl_itmr (s : State) :
    (tick s).intl.getLsbD 1 =
      (s.intl.getLsbD 1 ||
        (s.cmds.cmd19.getLsbD 2 && rises (timerStage s.cmds.cmd19) s.divider (s.divider + 1#19))) := by
  rw [tick_intl_bit s (by decide) (by decide), beforeSerial_bit s (by decide)]
  simp

theorem rises_ofNat {k : Nat} (hk : k < 19) (m n : Nat) :
    rises k (BitVec.ofNat 19 m) (BitVec.ofNat 19 n) = (!m.testBit k && n.testBit k) := by
  simp only [rises, BitVec.getLsbD_ofNat, hk, decide_true, Bool.true_and]

/-- Counted from 0, a stage has risen once `2 ^ k` cycles have passed: the first rise is its first 1. -/
theorem reached_or_rises {k : Nat} (hk : k < 19) (n : Nat) :
    (decide (2 ^ k ≤ n) || rises k (BitVec.ofNat 19 n) (BitVec.ofNat 19 (n + 1))) = decide (2 ^ k ≤ n + 1) := by
  rw [rises_ofNat hk]
  obtain hbefore | hnow | hreached : n + 1 < 2 ^ k ∨ n + 1 = 2 ^ k ∨ 2 ^ k ≤ n := by omega
  · have hbit : (n + 1).testBit k = false := Nat.testBit_lt_two_pow hbefore
    have hnot : ¬2 ^ k ≤ n := by omega
    have hnot' : ¬2 ^ k ≤ n + 1 := by omega
    simp [hbit, hnot, hnot']
  · have hbit : n.testBit k = false := Nat.testBit_lt_two_pow (by omega)
    simp [hnow, hbit, Nat.testBit_two_pow_self]
  · simp [hreached, Nat.le_succ_of_le hreached]

theorem timerStage_lt (cmd : Nibble) : timerStage cmd < 19 := by
  decide +revert

theorem two_pow_timerStage (cmd : Nibble) : 2 ^ timerStage cmd = 64 * 2 ^ (cmd.extractLsb' 0 2).toNat := by
  decide +revert

/-- From a cleared divider: set before, or enabled and the selected stage reached. -/
theorem ticks_intl_itmr (hclear : s.divider = 0#19) (n : Nat) :
    (ticks n s).intl.getLsbD 1 =
      (s.intl.getLsbD 1 || (s.cmds.cmd19.getLsbD 2 && decide (2 ^ timerStage s.cmds.cmd19 ≤ n))) := by
  induction n with
  | zero => simp [ticks]
  | succ n ih =>
    have hdivider : (ticks n s).divider = BitVec.ofNat 19 n := by
      rw [ticks_divider, hclear, BitVec.zero_add]
    rw [ticks_succ_eq_tick, tick_intl_itmr, ih, ticks_cmds, hdivider, ← BitVec.ofNat_add, Bool.or_assoc,
      ← Bool.and_or_distrib_left, reached_or_rises (timerStage_lt _)]

/-- Settles O48: one cycle sets the latch by a rise, and the first rise of stage `k` is that in cycle `2 ^ k`. -/
theorem dividerInterruptTime : Obligations.DividerInterruptTime := by
  unfold Obligations.DividerInterruptTime
  refine ⟨?_, fun s n hclear => ?_⟩
  · rintro s k rfl
    rw [tick_intl_itmr, Bool.and_assoc]
    rfl
  · rw [ticks_intl_itmr hclear, two_pow_timerStage]

/-! ## The count operation (R366, R367) -/

/-- The three words of a 12-bit quantity are different words on both chips. -/
theorem tripleWords_distinct (s : State) (base : RamAddr) :
    ramIndex s base ≠ ramIndex s (base + 1#8) ∧ ramIndex s base ≠ ramIndex s (base + 2#8) ∧
      ramIndex s (base + 1#8) ≠ ramIndex s (base + 2#8) := by
  have hlow : ∀ a : RamAddr, a.extractLsb' 0 7 ≠ (a + 1#8).extractLsb' 0 7 ∧
      a.extractLsb' 0 7 ≠ (a + 2#8).extractLsb' 0 7 ∧ (a + 1#8).extractLsb' 0 7 ≠ (a + 2#8).extractLsb' 0 7 := by
    decide
  obtain ⟨h01, h02, h12⟩ := hlow base
  exact ⟨ramIndex_ne_of_low s _ _ h01, ramIndex_ne_of_low s _ _ h02, ramIndex_ne_of_low s _ _ h12⟩

theorem readTriple_writeTriple (s : State) (base : RamAddr) (v : RomAddr) :
    readTriple (writeTriple s base v) base = v := by
  obtain ⟨h01, h02, h12⟩ := tripleWords_distinct s base
  simp only [readTriple, memRead_writeTriple s base _ v h01 h02 h12, h01.symm, h02.symm, h12.symm, if_true, if_false,
    triple_append]

theorem clearCount_intl (ch : Channel) (s : State) : (clearCount ch s).intl = s.intl := by
  cases ch <;> rfl

theorem writeTriple_intl (s : State) (base : RamAddr) (v : RomAddr) : (writeTriple s base v).intl = s.intl := by
  rw [writeTriple_frame, State.setRam_intl]

theorem eq_FFF_iff (v : RomAddr) : v = 0xFFF#12 ↔ v.toNat = 0xFFF := (BitVec.toNat_inj (y := 0xFFF#12)).symm

/-- The overflow latch of the channel, exactly when the counter was FFF. -/
theorem countOperation_bit (ch : Channel) (s : State) {j : Nat} (hj : j < 6) :
    (countOperation ch s).intl.getLsbD j =
      (s.intl.getLsbD j ||
        decide (j = factorLatch (overflowFactor ch) ∧ (readTriple s (counterAddr ch)).toNat = 0xFFF)) := by
  unfold countOperation
  simp only [eq_FFF_iff]
  split
  · next hfull => simp [setLatch_bit _ _ j hj, clearCount_intl, writeTriple_intl, hfull]
  · next hfull => simp [clearCount_intl, writeTriple_intl, hfull]

theorem exists_countOperation_eq (ch : Channel) (s : State) :
    ∃ m l, countOperation ch s = (clearCount ch (s.setRam m)).setIntl l ∧
      readTriple (s.setRam m) (counterAddr ch) = readTriple s (counterAddr ch) + 1#12 ∧
      OnlyWords s m (tripleWords (counterAddr ch)) ∧
      ∀ j < 6, l.getLsbD j =
        (s.intl.getLsbD j ||
          decide (j = factorLatch (overflowFactor ch) ∧ (readTriple s (counterAddr ch)).toNat = 0xFFF)) := by
  obtain ⟨m, hm, honly⟩ := exists_writeTriple_eq s (counterAddr ch) (readTriple s (counterAddr ch) + 1#12)
  refine ⟨m, _, ?_, ?_, honly, fun j hj => countOperation_bit ch s hj⟩
  · have hframe := countOperation_frame s ch
    rwa [hm, State.setRam_ram] at hframe
  · rw [← hm, readTriple_writeTriple]

/-- Settles O50: both channels are the one count operation, at their own words and latch. -/
theorem countOperationResult : Obligations.CountOperationResult := by
  unfold Obligations.CountOperationResult
  refine ⟨?_, ?_⟩
  · rintro s n rfl
    obtain ⟨m, l, hop, hcount, honly, hlatch⟩ := exists_countOperation_eq .one s
    refine ⟨m, l, hop, (congrArg BitVec.toNat hcount).trans (BitVec.toNat_add _ 1#12), honly, fun j hj => ?_⟩
    exact hlatch j hj
  · rintro s n rfl
    obtain ⟨m, l, hop, hcount, honly, hlatch⟩ := exists_countOperation_eq .two s
    refine ⟨m, l, hop, (congrArg BitVec.toNat hcount).trans (BitVec.toNat_add _ 1#12), honly, fun j hj => ?_⟩
    exact hlatch j hj

end Sys2Proof.Machine
end

section
/-! The requests that follow an instruction: one count operation and its cycle for each, and why no step needs more than
four. -/

namespace Sys2Proof.Machine

variable {s t : State}

/-! ## Serving one request -/

/-- Neither channel holds a request. -/
def NoRequest (s : State) : Prop := s.cntl1 = false ∧ s.cntl2 = false

/-- One round of step 3 of R315; nothing where no request is held. -/
def serveRequest (s : State) : State :=
  if s.cntl1 then tick (countOperation .one s)
  else if s.cntl2 then tick (countOperation .two s)
  else s

theorem serveRequest_one (h : s.cntl1 = true) : serveRequest s = tick (countOperation .one s) := if_pos h

theorem serveRequest_two (h1 : s.cntl1 = false) (h2 : s.cntl2 = true) :
    serveRequest s = tick (countOperation .two s) := by
  simp [serveRequest, h1, h2]

theorem serveRequest_of_noRequest (h : NoRequest s) : serveRequest s = s := by
  simp [serveRequest, h.1, h.2]

/-- The channel served next, where there is a request: channel 1 first. -/
theorem request_cases (s : State) :
    NoRequest s ∨ s.cntl1 = true ∨ (s.cntl1 = false ∧ s.cntl2 = true) := by
  unfold NoRequest
  cases s.cntl1 <;> cases s.cntl2 <;> simp

/-- `n` rounds. -/
def serveRounds (n : Nat) (s : State) : State :=
  match n with
  | 0 => s
  | k + 1 => serveRequest (serveRounds k s)

theorem serveRounds_succ (n : Nat) (s : State) : serveRounds (n + 1) s = serveRounds n (serveRequest s) := by
  induction n with
  | zero => rfl
  | succ n ih => exact congrArg serveRequest ih

/-- The rounds after the last request do nothing. -/
theorem serveRounds_of_noRequest {k n : Nat} (hle : k ≤ n) (h : NoRequest (serveRounds k s)) :
    serveRounds n s = serveRounds k s := by
  induction hle with
  | refl => rfl
  | step _ ih => rw [serveRounds, ih, serveRequest_of_noRequest h]

/-- The loop of the model is so many rounds. -/
theorem countRequests_eq_serveRounds (fuel : Nat) (s : State) : countRequests fuel s = serveRounds fuel s := by
  induction fuel generalizing s with
  | zero => rfl
  | succ fuel ih =>
    obtain hnone | hone | ⟨hnot, htwo⟩ := request_cases s
    · rw [serveRounds_of_noRequest (k := 0) (Nat.zero_le _) hnone]
      simp only [countRequests, serveRounds, hnone.1, hnone.2, Bool.false_eq_true, if_false]
    · rw [serveRounds_succ, serveRequest_one hone, ← ih]
      simp only [countRequests, hone, if_true]
    · rw [serveRounds_succ, serveRequest_two hnot htwo, ← ih]
      simp only [countRequests, hnot, htwo, Bool.false_eq_true, if_false, if_true]

/-! ## When a new request can come

After a first cycle the edge memories hold the pin levels, which do not change inside a step; so a request comes only by
a rise of a divider stage, FD6 or higher, and that needs the six low bits of the counter to be 1. -/

/-- The edge memories of the count pins hold the present levels. -/
def PinsSettled (s : State) : Prop := s.prev.r83 = (edgePins s).r83 ∧ s.prev.r81 = (edgePins s).r81

theorem tick_pinsSettled (s : State) : PinsSettled (tick s) := by
  obtain ⟨l, q, c1, c2, n, htick⟩ := exists_tick_eq s
  rw [htick]
  exact ⟨rfl, rfl⟩

theorem countOperation_pinsSettled (ch : Channel) (h : PinsSettled s) : PinsSettled (countOperation ch s) := by
  obtain ⟨m, l, hop, -⟩ := exists_countOperation_eq ch s
  rw [hop]
  cases ch <;> exact h

theorem not_rises_of_low {k : Nat} (hk : 6 ≤ k) {c : BitVec 19} (hc : c.toNat % 64 ≠ 63) :
    rises k c (c + 1#19) = false := by
  have hsame : (c.toNat + 1) % 2 ^ 19 / 2 ^ 6 = c.toNat / 2 ^ 6 := by omega
  have hbit : (c + 1#19).getLsbD k = c.getLsbD k := by
    obtain ⟨i, rfl⟩ := Nat.exists_eq_add_of_le' hk
    have hnext : (c + 1#19).toNat = (c.toNat + 1) % 2 ^ 19 := BitVec.toNat_add c 1#19
    rw [← BitVec.testBit_toNat, ← BitVec.testBit_toNat, hnext, ← Nat.testBit_div_two_pow, hsame,
      Nat.testBit_div_two_pow]
  rw [rises, hbit, Bool.not_and_self]

theorem le_pulseStage (cmd : Nibble) : 6 ≤ pulseStage cmd := Nat.le_add_right 6 _

theorem not_countPulse_of_low (cmd : Nibble) {c : BitVec 19} (hc : c.toNat % 64 ≠ 63) (level : Bool) :
    countPulse cmd c (c + 1#19) level level = false := by
  have hstage : rises (pulseStage cmd) c (c + 1#19) = false := not_rises_of_low (le_pulseStage cmd) hc
  unfold countPulse
  cases timerMode cmd with
  | disable => rfl
  | eventCounter => exact Bool.not_and_self level
  | timer => exact hstage
  | pulseWidth =>
    unfold rises at hstage
    cases level
    · simp
    · simpa using hstage

/-! ## Four operations are enough (log 28) -/

/-- How many requests are held. -/
def requests (s : State) : Nat := s.cntl1.toNat + s.cntl2.toNat

/-- The requests that the next `fuel` cycles may still bring: both channels', if the six low bits of the counter are 1 in
one of these cycles. -/
def requestsToCome (fuel : Nat) (s : State) : Nat := if 63 - s.divider.toNat % 64 < fuel then 2 else 0

/-- `fuel` rounds serve all requests. -/
def RequestsBounded (fuel : Nat) (s : State) : Prop :=
  NoRequest s ∨ (PinsSettled s ∧ requests s + requestsToCome fuel s ≤ fuel)

theorem requests_le_two (s : State) : requests s ≤ 2 :=
  Nat.add_le_add (Bool.toNat_le _) (Bool.toNat_le _)

theorem requestsBounded_four (h : PinsSettled s) : RequestsBounded 4 s := by
  have hheld := requests_le_two s
  have hcome : requestsToCome 4 s ≤ 2 := by
    unfold requestsToCome
    split <;> decide
  exact .inr ⟨h, Nat.add_le_add hheld hcome⟩

theorem noRequest_of_requestsBounded_zero (h : RequestsBounded 0 s) : NoRequest s := by
  obtain hnone | ⟨-, hheld⟩ := h
  · exact hnone
  · have hzero : s.cntl1.toNat = 0 ∧ s.cntl2.toNat = 0 := by
      unfold requests at hheld
      omega
    exact ⟨Bool.toNat_eq_zero.mp hzero.1, Bool.toNat_eq_zero.mp hzero.2⟩

/-- A cycle with settled pins brings a request only where the six low bits of the counter are 1. -/
theorem requests_tick (h : PinsSettled s) (hlow : s.divider.toNat % 64 ≠ 63) : requests (tick s) = requests s := by
  unfold requests
  rw [tick_cntl1, tick_cntl2, h.1, h.2, not_countPulse_of_low _ hlow, not_countPulse_of_low _ hlow, Bool.or_false,
    Bool.or_false]

/-- A cycle spends one of the cycles in which requests may come. -/
theorem requestsToCome_tick {fuel : Nat} (hfuel : fuel < 4) (s : State) :
    requestsToCome fuel (tick s) = if s.divider.toNat % 64 = 63 then 0 else requestsToCome (fuel + 1) s := by
  have hnext : (tick s).divider.toNat = (s.divider.toNat + 1) % 2 ^ 19 := BitVec.toNat_add s.divider 1#19
  unfold requestsToCome
  rw [hnext]
  by_cases hlow : s.divider.toNat % 64 = 63
  · rw [if_pos hlow, if_neg (by omega)]
  · have hwindow : 63 - (s.divider.toNat + 1) % 2 ^ 19 % 64 < fuel ↔ 63 - s.divider.toNat % 64 < fuel + 1 := by omega
    simp only [hlow, hwindow, if_false]

/-- A round on a held request: `u` is the state after its count operation. -/
theorem requestsBounded_tick {fuel : Nat} {u : State} (hfuel : fuel < 4) (hpins : PinsSettled u)
    (hbound : requests u + 1 + requestsToCome (fuel + 1) u ≤ fuel + 1) : RequestsBounded fuel (tick u) := by
  refine .inr ⟨tick_pinsSettled u, ?_⟩
  rw [requestsToCome_tick hfuel]
  by_cases hlow : u.divider.toNat % 64 = 63
  · have hcome : requestsToCome (fuel + 1) u = 2 := if_pos (by omega)
    have hheld := requests_le_two (tick u)
    rw [if_pos hlow]
    omega
  · rw [if_neg hlow, requests_tick hpins hlow]
    omega

/-- The request of a channel. -/
def requestOf (ch : Channel) (s : State) : Bool :=
  match ch with
  | .one => s.cntl1
  | .two => s.cntl2

/-- A count operation serves its channel's request and leaves the divider. -/
theorem countOperation_request {ch : Channel} (h : requestOf ch s = true) :
    requests (countOperation ch s) + 1 = requests s ∧ (countOperation ch s).divider = s.divider := by
  obtain ⟨m, l, hop, -⟩ := exists_countOperation_eq ch s
  rw [hop]
  cases ch with
  | one =>
    have hheld : s.cntl1 = true := h
    simp [requests, clearCount, hheld, Nat.add_comm]
  | two =>
    have hheld : s.cntl2 = true := h
    simp [requests, clearCount, hheld]

theorem requestsBounded_serve {fuel : Nat} (hfuel : fuel < 4) {ch : Channel} (hheld : requestOf ch s = true)
    (hpins : PinsSettled s) (hbound : requests s + requestsToCome (fuel + 1) s ≤ fuel + 1) :
    RequestsBounded fuel (tick (countOperation ch s)) := by
  obtain ⟨hserved, hdivider⟩ := countOperation_request hheld
  refine requestsBounded_tick hfuel (countOperation_pinsSettled ch hpins) ?_
  rw [hserved, requestsToCome, hdivider]
  exact hbound

theorem serveRequest_requestsBounded {fuel : Nat} (hfuel : fuel < 4) (h : RequestsBounded (fuel + 1) s) :
    RequestsBounded fuel (serveRequest s) := by
  obtain hnone | hone | ⟨hnot, htwo⟩ := request_cases s
  · rw [serveRequest_of_noRequest hnone]
    exact .inl hnone
  · obtain ⟨hfalse, -⟩ | ⟨hpins, hbound⟩ := h
    · exact absurd (hone.symm.trans hfalse) Bool.true_eq_false.mp
    · rw [serveRequest_one hone]
      exact requestsBounded_serve (ch := .one) hfuel hone hpins hbound
  · obtain ⟨-, hfalse⟩ | ⟨hpins, hbound⟩ := h
    · exact absurd (htwo.symm.trans hfalse) Bool.true_eq_false.mp
    · rw [serveRequest_two hnot htwo]
      exact requestsBounded_serve (ch := .two) hfuel htwo hpins hbound

theorem serveRounds_noRequest {fuel : Nat} (hfuel : fuel ≤ 4) (h : RequestsBounded fuel s) :
    NoRequest (serveRounds fuel s) := by
  induction fuel generalizing s with
  | zero => exact noRequest_of_requestsBounded_zero h
  | succ fuel ih =>
    rw [serveRounds_succ]
    exact ih (by omega) (serveRequest_requestsBounded (by omega) h)

/-- A property of numbers that holds up to a bound has a first instance. -/
theorem exists_first {p : Nat → Prop} {n : Nat} (h : p n) : ∃ k ≤ n, p k ∧ ∀ j < k, ¬p j := by
  induction n using Nat.strongRecOn with
  | ind n ih =>
    by_cases hearlier : ∃ j < n, p j
    · obtain ⟨j, hj, hp⟩ := hearlier
      obtain ⟨k, hk, hfirst⟩ := ih j hj hp
      exact ⟨k, Nat.le_trans hk (Nat.le_of_lt hj), hfirst⟩
    · exact ⟨n, Nat.le_refl n, h, fun j hj hp => hearlier ⟨j, hj, hp⟩⟩

/-- Settles O51: the rounds are counted up to the first state without a request, which four of them reach. -/
theorem countRequestsAreServed : Obligations.CountRequestsAreServed := by
  unfold Obligations.CountRequestsAreServed
  refine ⟨ticks_zero, ticks_succ_eq_tick, fun s n => ?_⟩
  have hpins : PinsSettled (ticks (n + 1) s) := by
    rw [ticks_succ_eq_tick]
    exact tick_pinsSettled _
  generalize hstart : ticks (n + 1) s = u at hpins
  have hfour : NoRequest (serveRounds 4 u) := serveRounds_noRequest (Nat.le_refl 4) (requestsBounded_four hpins)
  obtain ⟨k, hle, hnone, hbefore⟩ := exists_first (p := fun k => NoRequest (serveRounds k u)) hfour
  refine ⟨k, fun j => serveRounds j u, hle, rfl, ?_, fun j hj => ?_, hnone.1, hnone.2⟩
  · rw [afterInstruction, hstart, countRequests_eq_serveRounds]
    exact serveRounds_of_noRequest hle hnone
  · obtain hidle | hone | ⟨hnot, htwo⟩ := request_cases (serveRounds j u)
    · exact absurd hidle (hbefore j hj)
    · exact .inl ⟨hone, serveRequest_one hone⟩
    · exact .inr ⟨hnot, htwo, serveRequest_two hnot htwo⟩

end Sys2Proof.Machine
end

section
/-! The serial port: the request, the two shift edges as equations for the whole next state, and the order of the
bits. -/

namespace Sys2Proof.Machine

variable {s t : State}

/-! ## The request signal (R380) -/

theorem setRequest_bit (v : Bool) (s : State) {j : Nat} (hj : j < 6) :
    (setRequest v s).intl.getLsbD j = (s.intl.getLsbD j || (decide (j = 4) && (v && !s.sio.req))) :=
  setLatch_if_bit (s.setSio { s.sio with req := v }) (v && !s.sio.req) .isio hj

theorem setRequest_true_bit (s : State) {j : Nat} (hj : j < 6) :
    (setRequest true s).intl.getLsbD j = (s.intl.getLsbD j || (decide (j = 4) && !s.sio.req)) := by
  rw [setRequest_bit true s hj, Bool.true_and]

theorem setRequest_true_isio (h : s.sio.req = false) : (setRequest true s).intl.getLsbD 4 = true := by
  rw [setRequest_true_bit s (by decide), h]
  exact Bool.or_true _

/-- A request raised together with other registers: the latch looks at the request as it was. -/
theorem setRequest_true_setSio {q : Serial} (h : q.req = s.sio.req) :
    setRequest true (s.setSio q) = { s with sio := { q with req := true }, intl := (setRequest true s).intl } := by
  simp only [setRequest, State.setSio_sio, h]
  split <;> rfl

/-! ## A leading edge in transmit mode (R376, R377) -/

/-- The bit vacated in SR is a free value (log 37). -/
theorem shiftOut_eq (s : State) :
    shiftOut s =
      { s with
        freeCount := s.freeCount + 1
        sio :=
          { s.sio with
            sOut := s.sio.sr.getLsbD 0
            sr := (Config.freeNibble s.freeCount).extractLsb' 0 1 ++ s.sio.sr.extractLsb' 1 3
            nb := s.sio.nb + 1#2
            sef := s.sio.sef && decide (s.sio.nb ≠ 3#2) } } := by
  have hlast : ∀ n : BitVec 2, (n + 1#2 != 0#2) = decide (n ≠ 3#2) := by decide
  simp only [shiftOut, takeFree, State.setFreeCount, State.setSio, hlast]

theorem transmitEdge_inside (h : s.sio.nb ≠ 0#2) : transmitEdge s = shiftOut s :=
  if_pos (bne_iff_ne.mpr h)

theorem transmitEdge_end (hnb : s.sio.nb = 0#2) (hesio : esio s.cmds.cmd1F = false) :
    transmitEdge s = { s with sio := { s.sio with siof := false } } := by
  simp [transmitEdge, hnb, hesio, State.setSio]

theorem transmitEdge_empty (hnb : s.sio.nb = 0#2) (hesio : esio s.cmds.cmd1F = true) (hempty : s.sio.sbFull = false) :
    transmitEdge s =
      if s.cmds.cmd1F.getLsbD 0 then { s with sio := { s.sio with unspec := true } }
      else { s with sio := { s.sio with waiting := true } } := by
  simp only [transmitEdge, hnb, hesio, hempty, internalClock]
  cases s.cmds.cmd1F.getLsbD 0 <;> simp [State.setSio]

/-- The next word is taken from the buffer, and its bit 0 goes out at once. -/
theorem transmitEdge_load (hnb : s.sio.nb = 0#2) (hesio : esio s.cmds.cmd1F = true) (hfull : s.sio.sbFull = true) :
    transmitEdge s =
      { s with
        intl := (setRequest true s).intl
        freeCount := s.freeCount + 1
        sio :=
          { s.sio with
            sOut := s.sio.sb.getLsbD 0
            sr := (Config.freeNibble s.freeCount).extractLsb' 0 1 ++ s.sio.sb.extractLsb' 1 3
            nb := 1#2, sbFull := false, req := true, sef := true } } := by
  have hload : transmitEdge s =
      shiftOut (setRequest true (s.setSio { s.sio with sr := s.sio.sb, sbFull := false, sef := true })) := by
    simp [transmitEdge, hnb, hesio, hfull]
  have hrequest :=
    setRequest_true_setSio (s := s) (q := { s.sio with sr := s.sio.sb, sbFull := false, sef := true }) rfl
  rw [hload, hrequest, shiftOut_eq]
  simp [hnb]

/-! ## A shifting edge in a receive mode (R379) -/

theorem receiveEdge_end (hnb : s.sio.nb = 0#2) (hesio : esio s.cmds.cmd1F = false) (si : Bool) :
    receiveEdge si s = { s with sio := { s.sio with siof := false } } := by
  simp [receiveEdge, hnb, hesio, State.setSio]

theorem receiveEdge_full (h : s.sio.nb ≠ 0#2 ∨ esio s.cmds.cmd1F = true) (hfull : s.sio.srFull = true) (si : Bool) :
    receiveEdge si s =
      if s.cmds.cmd1F.getLsbD 0 then { s with sio := { s.sio with unspec := true } }
      else { s with sio := { s.sio with waiting := true } } := by
  have hgo : (s.sio.nb == 0#2 && !esio s.cmds.cmd1F) = false := by
    obtain hnb | hesio := h
    · simp [hnb]
    · simp [hesio]
  simp only [receiveEdge, hgo, hfull, internalClock]
  cases s.cmds.cmd1F.getLsbD 0 <;> simp [State.setSio]

theorem receiveEdge_shift (h : s.sio.nb ≠ 0#2 ∨ esio s.cmds.cmd1F = true) (hfree : s.sio.srFull = false) (si : Bool) :
    receiveEdge si s = shiftIn si s := by
  have hgo : (s.sio.nb == 0#2 && !esio s.cmds.cmd1F) = false := by
    obtain hnb | hesio := h
    · simp [hnb]
    · simp [hesio]
  simp [receiveEdge, hgo, hfree]

/-- SR with the received bit shifted in from above. -/
def received (si : Bool) (sr : Nibble) : Nibble := BitVec.ofBool si ++ sr.extractLsb' 1 3

theorem shiftIn_inside (h : s.sio.nb ≠ 3#2) (si : Bool) :
    shiftIn si s = { s with sio := { s.sio with sr := received si s.sio.sr, nb := s.sio.nb + 1#2, sef := true } } := by
  have hmore : ∀ n : BitVec 2, n ≠ 3#2 → n + 1#2 ≠ 0#2 := by decide
  simp [shiftIn, hmore _ h, State.setSio, received]

theorem shiftIn_last (h : s.sio.nb = 3#2) (si : Bool) :
    shiftIn si s =
      deliverWord (s.setSio { s.sio with sr := received si s.sio.sr, nb := 0#2, sef := false }) := by
  simp [shiftIn, h, received]

theorem shiftIn_last_kept (h : s.sio.nb = 3#2) (hfull : s.sio.sbFull = true) (si : Bool) :
    shiftIn si s =
      { s with sio := { s.sio with sr := received si s.sio.sr, nb := 0#2, sef := false, srFull := true } } := by
  rw [shiftIn_last h]
  simp [deliverWord, hfull, State.setSio]

theorem shiftIn_last_delivered (h : s.sio.nb = 3#2) (hfree : s.sio.sbFull = false) (si : Bool) :
    shiftIn si s =
      { s with
        intl := (setRequest true s).intl
        sio :=
          { s.sio with
            sr := received si s.sio.sr, sb := received si s.sio.sr, nb := 0#2, sef := false, sbFull := true
            req := true } } := by
  have hdeliver : shiftIn si s = setRequest true
      (s.setSio
        { s.sio with
          sr := received si s.sio.sr, sb := received si s.sio.sr, nb := 0#2, sef := false, sbFull := true }) := by
    rw [shiftIn_last h]
    simp [deliverWord, hfree]
  exact hdeliver.trans (setRequest_true_setSio rfl)

/-! ## The order of the bits (R376, R379, D26) -/

/-- `t` follows `s` by one bit out of SR, inside a word. -/
structure BitSent (s t : State) : Prop where
  out : t.sio.sOut = s.sio.sr.getLsbD 0
  rest : ∀ i < 3, t.sio.sr.getLsbD i = s.sio.sr.getLsbD (i + 1)
  nb : t.sio.nb = s.sio.nb + 1#2
  sef : t.sio.sef = (s.sio.sef && decide (s.sio.nb ≠ 3#2))
  siof : t.sio.siof = s.sio.siof

theorem getLsbD_shifted (u : BitVec 1) (v : Nibble) :
    ∀ i < 3, (u ++ v.extractLsb' 1 3).getLsbD i = v.getLsbD (i + 1) := by
  decide +revert

theorem transmitEdge_bitSent (h : s.sio.nb ≠ 0#2) : BitSent s (transmitEdge s) := by
  rw [transmitEdge_inside h, shiftOut_eq]
  exact ⟨rfl, getLsbD_shifted _ _, rfl, rfl, rfl⟩

/-- The four edges of a transmitted word. -/
theorem transmitEdge_word {a b c d : State} (hnb : s.sio.nb = 0#2) (hfull : s.sio.sbFull = true)
    (hesio : esio s.cmds.cmd1F = true) (ha : a = transmitEdge s) (hb : b = transmitEdge a) (hc : c = transmitEdge b)
    (hd : d = transmitEdge c) :
    a.sio.sOut = s.sio.sb.getLsbD 0 ∧ b.sio.sOut = s.sio.sb.getLsbD 1 ∧ c.sio.sOut = s.sio.sb.getLsbD 2 ∧
      d.sio.sOut = s.sio.sb.getLsbD 3 ∧ a.sio.sbFull = false ∧ a.sio.req = true ∧
      (s.sio.req = false → a.intl.getLsbD 4 = true) ∧ a.sio.sef = true ∧ b.sio.sef = true ∧ c.sio.sef = true ∧
      d.sio.sef = false ∧ d.sio.nb = 0#2 ∧ d.sio.siof = s.sio.siof := by
  rw [transmitEdge_load hnb hesio hfull] at ha
  have hsr : ∀ i < 3, a.sio.sr.getLsbD i = s.sio.sb.getLsbD (i + 1) := by
    rw [ha]
    exact getLsbD_shifted _ _
  have hanb : a.sio.nb = 1#2 := by rw [ha]
  have hasef : a.sio.sef = true := by rw [ha]
  have hab : BitSent a b := hb ▸ transmitEdge_bitSent (by rw [hanb]; decide)
  have hbnb : b.sio.nb = 2#2 := by rw [hab.nb, hanb]; rfl
  have hbsef : b.sio.sef = true := by rw [hab.sef, hasef, hanb]; rfl
  have hbc : BitSent b c := hc ▸ transmitEdge_bitSent (by rw [hbnb]; decide)
  have hcnb : c.sio.nb = 3#2 := by rw [hbc.nb, hbnb]; rfl
  have hcsef : c.sio.sef = true := by rw [hbc.sef, hbsef, hbnb]; rfl
  have hcd : BitSent c d := hd ▸ transmitEdge_bitSent (by rw [hcnb]; decide)
  refine ⟨?_, ?_, ?_, ?_, ?_, ?_, fun hreq => ?_, hasef, hbsef, hcsef, ?_, ?_, ?_⟩
  · rw [ha]
  · rw [hab.out, hsr 0 (by decide)]
  · rw [hbc.out, hab.rest 0 (by decide), hsr 1 (by decide)]
  · rw [hcd.out, hbc.rest 0 (by decide), hab.rest 1 (by decide), hsr 2 (by decide)]
  · rw [ha]
  · rw [ha]
  · rw [ha]
    exact setRequest_true_isio hreq
  · rw [hcd.sef, hcnb, hcsef]
    rfl
  · rw [hcd.nb, hcnb]
    rfl
  · rw [hcd.siof, hbc.siof, hab.siof, ha]

/-- `s` inside a word being received, with these contents of SR and NB. -/
def insideWord (sr : Nibble) (nb : BitVec 2) (s : State) : State :=
  { s with sio := { s.sio with sr := sr, nb := nb, sef := true } }

theorem receiveEdge_first (hnb : s.sio.nb = 0#2) (hesio : esio s.cmds.cmd1F = true) (hfree : s.sio.srFull = false)
    (b : Bool) : receiveEdge b s = insideWord (received b s.sio.sr) 1#2 s := by
  rw [receiveEdge_shift (.inr hesio) hfree, shiftIn_inside (by rw [hnb]; decide), hnb]
  rfl

theorem receiveEdge_next {nb : BitVec 2} (hzero : nb ≠ 0#2) (hlast : nb ≠ 3#2) (hfree : s.sio.srFull = false)
    (sr : Nibble) (b : Bool) :
    receiveEdge b (insideWord sr nb s) = insideWord (received b sr) (nb + 1#2) s :=
  (receiveEdge_shift (s := insideWord sr nb s) (.inl hzero) hfree b).trans (shiftIn_inside hlast b)

/-- The four edges of a received word come to the fourth shift. -/
theorem receiveEdge_four (hnb : s.sio.nb = 0#2) (hesio : esio s.cmds.cmd1F = true) (hfree : s.sio.srFull = false)
    (b0 b1 b2 b3 : Bool) :
    receiveEdge b3 (receiveEdge b2 (receiveEdge b1 (receiveEdge b0 s))) =
      shiftIn b3 (insideWord (received b2 (received b1 (received b0 s.sio.sr))) 3#2 s) := by
  rw [receiveEdge_first hnb hesio hfree, receiveEdge_next (by decide) (by decide) hfree,
    receiveEdge_next (by decide) (by decide) hfree]
  have hinside : (3#2 : BitVec 2) ≠ 0#2 := by decide
  exact receiveEdge_shift (s := insideWord _ 3#2 s) (.inl hinside) hfree b3

theorem received_four (b0 b1 b2 b3 : Bool) (sr : Nibble) :
    received b3 (received b2 (received b1 (received b0 sr))) =
      BitVec.ofBool b3 ++ BitVec.ofBool b2 ++ BitVec.ofBool b1 ++ BitVec.ofBool b0 := by
  decide +revert

/-- The four edges of a received word: the word is delivered, or kept in SR where the buffer holds one. -/
theorem receiveEdge_word {b0 b1 b2 b3 : Bool} {w : Nibble} (hnb : s.sio.nb = 0#2) (hfree : s.sio.srFull = false)
    (hesio : esio s.cmds.cmd1F = true)
    (hw : w = BitVec.ofBool b3 ++ BitVec.ofBool b2 ++ BitVec.ofBool b1 ++ BitVec.ofBool b0)
    (ht : t = receiveEdge b3 (receiveEdge b2 (receiveEdge b1 (receiveEdge b0 s)))) :
    t.sio.sr = w ∧ t.sio.nb = 0#2 ∧ t.sio.sef = false ∧
      (s.sio.sbFull = false → t.sio.sb = w ∧ t.sio.sbFull = true ∧ t.sio.req = true ∧
        (s.sio.req = false → t.intl.getLsbD 4 = true)) ∧
      (s.sio.sbFull = true → t.sio.sb = s.sio.sb ∧ t.sio.srFull = true ∧ t.sio.req = s.sio.req) := by
  rw [receiveEdge_four hnb hesio hfree] at ht
  cases hbuffer : s.sio.sbFull with
  | false =>
    rw [shiftIn_last_delivered (s := insideWord _ 3#2 s) rfl hbuffer] at ht
    subst ht hw
    refine ⟨received_four _ _ _ _ _, rfl, rfl, fun _ => ⟨received_four _ _ _ _ _, rfl, rfl, fun hreq => ?_⟩,
      fun h => absurd h Bool.false_ne_true⟩
    exact setRequest_true_isio (s := insideWord _ 3#2 s) hreq
  | true =>
    rw [shiftIn_last_kept (s := insideWord _ 3#2 s) rfl hbuffer] at ht
    subst ht hw
    exact ⟨received_four _ _ _ _ _, rfl, rfl, fun h => absurd h Bool.true_eq_false.mp, fun _ => ⟨rfl, rfl, rfl⟩⟩

/-- Settles O52: the equations of the two edges, case by case, and the chains of four. -/
theorem serialLowBitFirst : Obligations.SerialLowBitFirst := by
  unfold Obligations.SerialLowBitFirst
  refine ⟨fun s hnb hesio => ⟨transmitEdge_end hnb hesio, receiveEdge_end hnb hesio⟩,
    fun s hnb hesio hempty => transmitEdge_empty hnb hesio hempty, fun s hnb hesio hfull => ?_, fun s hnb => ?_,
    fun s b hgo hfull => receiveEdge_full hgo hfull b, ?_,
    fun s a b c d hnb hfull hesio => transmitEdge_word hnb hfull hesio,
    fun s b0 b1 b2 b3 w t hnb hfree hesio => receiveEdge_word hnb hfree hesio⟩
  · exact ⟨_, _, transmitEdge_load hnb hesio hfull, fun j hj => setRequest_true_bit s hj⟩
  · exact ⟨_, (transmitEdge_inside hnb).trans (shiftOut_eq s)⟩
  · rintro s b w hgo hfree rfl
    rw [receiveEdge_shift hgo hfree]
    refine ⟨fun hnb => shiftIn_inside hnb b, fun hnb hfull => shiftIn_last_kept hnb hfull b, fun hnb hempty => ?_⟩
    exact ⟨_, shiftIn_last_delivered hnb hempty b, fun j hj => setRequest_true_bit s hj⟩

end Sys2Proof.Machine
end

section
/-! One cycle of the serial port, the wait, and the outputs to the serial port. -/

namespace Sys2Proof.Machine

variable {s t u : State}

/-! ## INTL4 goes with the request (R380) -/

/-- From `s` to `t`, INTL4 is set exactly by a rise of the request. -/
def LatchedByRise (s t : State) : Prop :=
  t.intl.getLsbD 4 = (s.intl.getLsbD 4 || (!s.sio.req && t.sio.req))

theorem LatchedByRise.of_kept (hintl : t.intl = s.intl) (hreq : t.sio.req = s.sio.req) : LatchedByRise s t := by
  unfold LatchedByRise
  rw [hintl, hreq, Bool.not_and_self, Bool.or_false]

/-- What raises the request goes by `setRequest`. -/
theorem LatchedByRise.of_raised (hintl : t.intl = (setRequest true s).intl) (hreq : t.sio.req = true) :
    LatchedByRise s t := by
  unfold LatchedByRise
  rw [hintl, hreq, setRequest_true_bit s (by decide), Bool.and_true]
  rfl

theorem transmitEdge_latchedByRise (s : State) : LatchedByRise s (transmitEdge s) := by
  by_cases hnb : s.sio.nb = 0#2
  · cases hesio : esio s.cmds.cmd1F with
    | false =>
      rw [transmitEdge_end hnb hesio]
      exact .of_kept rfl rfl
    | true =>
      cases hfull : s.sio.sbFull with
      | false =>
        rw [transmitEdge_empty hnb hesio hfull]
        split <;> exact .of_kept rfl rfl
      | true =>
        rw [transmitEdge_load hnb hesio hfull]
        exact .of_raised rfl rfl
  · rw [transmitEdge_inside hnb]
    exact .of_kept rfl rfl

theorem shiftIn_latchedByRise (si : Bool) (s : State) : LatchedByRise s (shiftIn si s) := by
  by_cases hnb : s.sio.nb = 3#2
  · cases hfull : s.sio.sbFull with
    | false =>
      rw [shiftIn_last_delivered hnb hfull]
      exact .of_raised rfl rfl
    | true =>
      rw [shiftIn_last_kept hnb hfull]
      exact .of_kept rfl rfl
  · rw [shiftIn_inside hnb]
    exact .of_kept rfl rfl

/-- What a receive edge can do. -/
theorem receiveEdge_cases (si : Bool) (s : State) :
    (s.sio.nb = 0#2 ∧ esio s.cmds.cmd1F = false) ∨
      ((s.sio.nb ≠ 0#2 ∨ esio s.cmds.cmd1F = true) ∧ s.sio.srFull = true) ∨
      receiveEdge si s = shiftIn si s := by
  by_cases hend : s.sio.nb = 0#2 ∧ esio s.cmds.cmd1F = false
  · exact .inl hend
  · have hgo : s.sio.nb ≠ 0#2 ∨ esio s.cmds.cmd1F = true := by
      by_cases hnb : s.sio.nb = 0#2
      · exact .inr (Bool.not_eq_false _ ▸ fun hesio => hend ⟨hnb, hesio⟩)
      · exact .inl hnb
    cases hfull : s.sio.srFull with
    | false => exact .inr (.inr (receiveEdge_shift hgo hfull si))
    | true => exact .inr (.inl ⟨hgo, rfl⟩)

theorem receiveEdge_latchedByRise (si : Bool) (s : State) : LatchedByRise s (receiveEdge si s) := by
  obtain ⟨hnb, hesio⟩ | ⟨hgo, hfull⟩ | hshift := receiveEdge_cases si s
  · rw [receiveEdge_end hnb hesio]
    exact .of_kept rfl rfl
  · rw [receiveEdge_full hgo hfull]
    split <;> exact .of_kept rfl rfl
  · rw [hshift]
    exact shiftIn_latchedByRise si s

theorem serialShift_latchedByRise (next : BitVec 19) (now : EdgePins) (si : Bool) (s : State) :
    LatchedByRise s (serialShift next now si s) := by
  have hnone : LatchedByRise s s := .of_kept rfl rfl
  unfold serialShift
  split
  · exact hnone
  · split
    · exact transmitEdge_latchedByRise s
    · exact hnone
  · split
    · exact receiveEdge_latchedByRise si s
    · exact hnone
  · split
    · exact receiveEdge_latchedByRise si s
    · exact hnone

/-! ## The registers of the serial port depend on the serial port alone -/

/-- All that a shift edge reads of the state. -/
structure SameSerial (s t : State) : Prop where
  sio : t.sio = s.sio
  cmds : t.cmds = s.cmds
  freeCount : t.freeCount = s.freeCount

theorem shiftOut_sio_congr (h : SameSerial s t) : (shiftOut t).sio = (shiftOut s).sio := by
  rw [shiftOut_eq, shiftOut_eq, h.sio, h.freeCount]

theorem setRequest_sameSerial (h : SameSerial s t) (v : Bool) : SameSerial (setRequest v s) (setRequest v t) := by
  have hfree : ∀ w, (setRequest v w).freeCount = w.freeCount := by
    intro w
    rw [setRequest_frame]
    rfl
  refine ⟨?_, ?_, ?_⟩
  · rw [setRequest_sio, setRequest_sio, h.sio]
  · rw [(setRequest_serialOnly v t).cmds, (setRequest_serialOnly v s).cmds, h.cmds]
  · rw [hfree, hfree, h.freeCount]

theorem transmitEdge_sio_congr (h : SameSerial s t) : (transmitEdge t).sio = (transmitEdge s).sio := by
  unfold transmitEdge
  rw [h.sio, h.cmds]
  split
  · exact shiftOut_sio_congr h
  · split
    · rfl
    · split
      · split <;> rfl
      · refine shiftOut_sio_congr (setRequest_sameSerial ?_ true)
        exact ⟨rfl, h.cmds, h.freeCount⟩

theorem shiftIn_sio_congr (h : SameSerial s t) (si : Bool) : (shiftIn si t).sio = (shiftIn si s).sio := by
  by_cases hnb : s.sio.nb = 3#2
  · have hnb' : t.sio.nb = 3#2 := by rw [h.sio, hnb]
    cases hfull : s.sio.sbFull with
    | false =>
      have hfull' : t.sio.sbFull = false := by rw [h.sio, hfull]
      rw [shiftIn_last_delivered hnb hfull, shiftIn_last_delivered hnb' hfull', h.sio]
    | true =>
      have hfull' : t.sio.sbFull = true := by rw [h.sio, hfull]
      rw [shiftIn_last_kept hnb hfull, shiftIn_last_kept hnb' hfull', h.sio]
  · have hnb' : t.sio.nb ≠ 3#2 := by rwa [h.sio]
    rw [shiftIn_inside hnb, shiftIn_inside hnb', h.sio]

theorem receiveEdge_sio_congr (h : SameSerial s t) (si : Bool) : (receiveEdge si t).sio = (receiveEdge si s).sio := by
  unfold receiveEdge
  rw [h.sio, h.cmds]
  split
  · rfl
  · split
    · split <;> rfl
    · exact shiftIn_sio_congr h si

/-! ## The shift of one cycle (R374) -/

/-- All that the serial step of a cycle reads of the state. -/
structure SameForShift (s t : State) : Prop extends SameSerial s t where
  divider : t.divider = s.divider
  prev : t.prev = s.prev

theorem beforeSerial_sameForShift (s : State) : SameForShift s (beforeSerial s) := by
  rw [beforeSerial_eq]
  exact ⟨⟨rfl, rfl, rfl⟩, rfl, rfl⟩

theorem pinsR9_bits (s : State) : (pinsR9 s).getLsbD 2 = levelSck s ∧ (pinsR9 s).getLsbD 0 = levelSi s := by
  have hbits : ∀ a b c : Bool, (BitVec.ofBool a ++ BitVec.ofBool b ++ BitVec.ofBool c).getLsbD 2 = a ∧
      (BitVec.ofBool a ++ BitVec.ofBool b ++ BitVec.ofBool c).getLsbD 0 = c := by decide
  rw [pinsR9_eq]
  exact hbits _ _ _

theorem leadEdge_eq (h : SameForShift s t) : leadEdge (s.divider + 1#19) (edgePins s) t = shiftLeads s := by
  have hpin : (edgePins s).r92 = levelSck s := (pinsR9_bits s).1
  unfold leadEdge shiftLeads internalClock clockRunning
  rw [h.sio, h.cmds, h.divider, h.prev, hpin]
  cases s.cmds.cmd1F.getLsbD 0 <;> rfl

theorem trailEdge_eq (h : SameForShift s t) : trailEdge (s.divider + 1#19) (edgePins s) t = shiftTrails s := by
  have hpin : (edgePins s).r92 = levelSck s := (pinsR9_bits s).1
  unfold trailEdge shiftTrails internalClock clockRunning
  rw [h.sio, h.cmds, h.divider, h.prev, hpin]
  cases s.cmds.cmd1F.getLsbD 0 <;> rfl

theorem serialShift_sio (h : SameForShift s t) :
    (serialShift (s.divider + 1#19) (edgePins s) (levelSi s) t).sio = shifted s := by
  unfold serialShift serialMode shifted
  rw [leadEdge_eq h, trailEdge_eq h, h.cmds]
  have htransmit := transmitEdge_sio_congr h.toSameSerial
  have hreceive := receiveEdge_sio_congr h.toSameSerial (levelSi s)
  have hsio := h.sio
  cases hsiof : s.sio.siof <;> cases s.cmds.cmd1F.getLsbD 2 <;> cases s.cmds.cmd1F.getLsbD 1 <;>
    simp [hsiof, hsio, apply_ite State.sio, htransmit, hreceive]

/-- The state after this cycle's shift. -/
def cycleShift (s : State) : State :=
  serialShift (s.divider + 1#19) (edgePins s) ((pinsR9 s).getLsbD 0) (beforeSerial s)

theorem cycleShift_sio (s : State) : (cycleShift s).sio = shifted s := by
  rw [cycleShift, (pinsR9_bits s).2, serialShift_sio (beforeSerial_sameForShift s)]

theorem cycleShift_cmds (s : State) : (cycleShift s).cmds = s.cmds :=
  (serialShift_serialOnly _ _ _ _).cmds.trans (beforeSerial_sameForShift s).cmds

theorem cycleShift_isio (s : State) :
    (cycleShift s).intl.getLsbD 4 = (s.intl.getLsbD 4 || (!s.sio.req && (shifted s).req)) := by
  have hrise : LatchedByRise (beforeSerial s) (cycleShift s) := serialShift_latchedByRise _ _ _ _
  unfold LatchedByRise at hrise
  rw [hrise, cycleShift_sio, beforeSerial_bit s (by decide), (beforeSerial_sameForShift s).sio]
  simp

/-! ## The end of the serial step (R373, U8) -/

/-- The level of SCKOUT at the end of a cycle (R373). -/
def sckLevel (s : State) (q : Serial) : Bool :=
  if !s.cmds.cmd1F.getLsbD 0 && q.siof && !q.waiting then (s.divider + 1#19).getLsbD 3 else true

/-- What the broken protocol leaves of the registers (U8). -/
theorem scrambleSerial_sio (s : State) :
    (scrambleSerial s).sio.siof = s.sio.siof ∧ (scrambleSerial s).sio.sef = s.sio.sef ∧
      (scrambleSerial s).sio.waiting = s.sio.waiting ∧ (scrambleSerial s).sio.sckOut = s.sio.sckOut ∧
      (scrambleSerial s).sio.unspec = true := by
  simp [scrambleSerial]

theorem scrambleSerial_bit (s : State) {j : Nat} (hj : j < 6) :
    (scrambleSerial s).intl.getLsbD j =
      (s.intl.getLsbD j || (decide (j = 4) && (!s.sio.req && (scrambleSerial s).sio.req))) := by
  unfold scrambleSerial
  rw [setRequest_bit _ _ hj, setRequest_sio]
  simp [Bool.and_comm]

/-- After a shift: the registers are lost where the protocol is broken (U8). -/
def afterLoss (s : State) : State := if s.sio.unspec then scrambleSerial s else s

theorem afterLoss_cmds (s : State) : (afterLoss s).cmds = s.cmds := by
  unfold afterLoss
  split
  · exact (scrambleSerial_serialOnly s).cmds
  · rfl

/-- The serial step ends by setting SCKOUT. -/
theorem serialTick_eq (next : BitVec 19) (now : EdgePins) (si : Bool) (s : State) :
    serialTick next now si s =
      (afterLoss (serialShift next now si s)).setSio
        { (afterLoss (serialShift next now si s)).sio with
          sckOut :=
            if internalClock (afterLoss (serialShift next now si s)).cmds.cmd1F &&
                clockRunning (afterLoss (serialShift next now si s)) then
              next.getLsbD 3
            else true } := rfl

theorem tick_sio (s : State) :
    (tick s).sio =
      { (afterLoss (cycleShift s)).sio with sckOut := sckLevel s (afterLoss (cycleShift s)).sio } := by
  have hcmds : (afterLoss (cycleShift s)).cmds = s.cmds := (afterLoss_cmds _).trans (cycleShift_cmds s)
  rw [tick_eq, State.setPrev_sio, State.setDivider_sio, serialTick_eq, State.setSio_sio, ← cycleShift, hcmds,
    internalClock, clockRunning, ← Bool.and_assoc, sckLevel]

theorem tick_intl (s : State) : (tick s).intl = (afterLoss (cycleShift s)).intl := by
  rw [tick_eq, State.setPrev_intl, State.setDivider_intl, serialTick_eq, State.setSio_intl, ← cycleShift]

theorem afterLoss_of_defined (h : s.sio.unspec = false) : afterLoss s = s :=
  if_neg (Bool.eq_false_iff.mp h)

theorem afterLoss_of_broken (h : s.sio.unspec = true) : afterLoss s = scrambleSerial s := if_pos h

theorem tick_sio_of_defined (h : (shifted s).unspec = false) :
    (tick s).sio = { shifted s with sckOut := sckLevel s (shifted s) } := by
  rw [tick_sio, afterLoss_of_defined (by rw [cycleShift_sio, h]), cycleShift_sio]

/-- Settles O53: the cycle's shift, and over it the loss of U8 where it comes to that. -/
theorem serialShiftOfACycle : Obligations.SerialShiftOfACycle := by
  unfold Obligations.SerialShiftOfACycle
  rintro s q sck rfl rfl
  refine ⟨fun hdefined => ⟨tick_sio_of_defined hdefined, ?_⟩, fun hbroken => ?_⟩
  · rw [tick_intl, afterLoss_of_defined (by rw [cycleShift_sio, hdefined]), cycleShift_isio]
  · obtain ⟨hsiof, hsef, hwaiting, -, hunspec⟩ := scrambleSerial_sio (cycleShift s)
    rw [cycleShift_sio] at hsiof hsef hwaiting
    have hloss := afterLoss_of_broken (s := cycleShift s) (by rw [cycleShift_sio, hbroken])
    have hsio := tick_sio s
    rw [hloss, sckLevel, hsiof, hwaiting] at hsio
    have hlatch := scrambleSerial_bit (cycleShift s) (j := 4) (by decide)
    rw [cycleShift_isio, cycleShift_sio] at hlatch
    rw [tick_intl, hloss, hsio]
    exact ⟨hsiof, hsef, hwaiting, rfl, hunspec, hlatch⟩

/-! ## The wait (R374, R376, R379) -/

/-- The internal clock gives no edge while it waits. -/
theorem shifted_of_waiting (hwait : s.sio.waiting = true) (hclock : s.cmds.cmd1F.getLsbD 0 = false) :
    shifted s = s.sio := by
  have hlead : shiftLeads s = false := by
    simp only [shiftLeads, hclock, hwait, Bool.not_true, Bool.and_false, Bool.false_and, Bool.false_eq_true, if_false]
  have htrail : shiftTrails s = false := by
    simp only [shiftTrails, hclock, hwait, Bool.not_true, Bool.and_false, Bool.false_and, Bool.false_eq_true, if_false]
  unfold shifted
  rw [hlead, htrail]
  split
  · rfl
  · split <;> rfl

theorem tick_sio_of_waiting (hwait : s.sio.waiting = true) (hclock : s.cmds.cmd1F.getLsbD 0 = false)
    (hdefined : s.sio.unspec = false) : (tick s).sio = { s.sio with sckOut := true } := by
  have hshift := shifted_of_waiting hwait hclock
  rw [tick_sio_of_defined (by rw [hshift, hdefined]), hshift]
  simp [sckLevel, hwait]

/-- Settles O54: after the first cycle of the wait each cycle finds the port as it leaves it. -/
theorem waitHoldsTheSerialPort : Obligations.WaitHoldsTheSerialPort := by
  unfold Obligations.WaitHoldsTheSerialPort
  intro s n hwait hclock hdefined
  induction n with
  | zero => exact tick_sio_of_waiting hwait hclock hdefined
  | succ n ih =>
    rw [ticks_succ_eq_tick, tick_sio_of_waiting, ih]
    · rw [ih]
      exact hwait
    · rw [ticks_cmds]
      exact hclock
    · rw [ih]
      exact hdefined

/-! ## The outputs to the serial buffer and the serial command (R371, R375, R382) -/

theorem writeSerialBuffer_eq (v : Nibble) (s : State) :
    writeSerialBuffer v s =
      s.setSio
        (if transmitSelected s then { s.sio with sb := v, sbFull := true, req := false, waiting := false }
          else s.sio) := by
  rw [writeSerialBuffer, inTransmit_eq]
  split <;> rfl

/-- The three outputs to the buffer, by the value each sends. -/
theorem exec_outBuffer {i : Instr} {v : Nibble}
    (hi : (i = .outAP 0x0F ∧ v = s.ac) ∨ (i = .outHLP 0x0F ∧ v = memRead s (s.hr ++ s.lr)) ∨ i = .outKP v 0xF) :
    exec i s = .next (advance 2#12 ((writeSerialBuffer v s).setSf true)) := by
  obtain ⟨rfl, rfl⟩ | ⟨rfl, rfl⟩ | rfl := hi
  · exact exec_outAP_of_portOut rfl
  · exact exec_outHLP_of_portOut rfl
  · exact exec_outKP_of_portOut rfl

/-- Settles O22: the buffer write changes the serial registers in transmit mode alone. -/
theorem outputSerialBufferResults : Obligations.OutputSerialBufferResults := by
  unfold Obligations.OutputSerialBufferResults
  refine ⟨fun s v i hi => ?_, encodes_of_decode3A rfl, encodes_of_decode3A rfl, fun v => encodes_encode (.outKP v 0xF)⟩
  rw [exec_outBuffer hi, writeSerialBuffer_eq, advance_setSf]
  rfl

/-- The two outputs to the command register, by the value each sends. -/
theorem exec_outCommand {i : Instr} {v : Nibble}
    (hi : (i = .outAP 0x1F ∧ v = s.ac) ∨ (i = .outHLP 0x1F ∧ v = memRead s (s.hr ++ s.lr)))
    (h : writeSerialCommand v s = .ok t) : exec i s = .next (advance 2#12 (t.setSf true)) := by
  obtain ⟨rfl, rfl⟩ | ⟨rfl, rfl⟩ := hi
  · exact exec_outAP_of_portOut h
  · exact exec_outHLP_of_portOut h

/-- The state in which the loss of R382 finds the port. -/
def commandWritten (v : Nibble) (s : State) : State :=
  (s.setSio (commandTransfer v s)).setCmds { s.cmds with cmd1F := v }

theorem writeSerialCommand_eq {v : Nibble} (hmode : ¬(v.getLsbD 3 = true ∧ v.extractLsb' 1 2 = 0b00#2)) (s : State) :
    writeSerialCommand v s =
      .ok (if modeChangeInFlight v s then scrambleSerial (commandWritten v s) else commandWritten v s) := by
  have hguard : ¬(esio v && serialMode v == .unusable) = true := by
    rwa [Bool.and_eq_true, beq_iff_eq, serialMode_eq_unusable_iff]
  exact if_neg hguard

theorem commandTransfer_eq (v : Nibble) (s : State) :
    commandTransfer v s =
      if v.getLsbD 3 && !s.cmds.cmd1F.getLsbD 3 then
        { s.sio with siof := true, nb := 0, waiting := false, unspec := false }
      else if v.extractLsb' 1 2 = 0b00#2 then { s.sio with siof := false, sef := false, waiting := false }
      else if !v.getLsbD 3 && transmitSelected s && s.sio.nb == 0 then { s.sio with siof := false, waiting := false }
      else s.sio := by
  simp only [commandTransfer, esio, inTransmit_eq, beq_iff_eq, serialMode_eq_unusable_iff]
  rfl

theorem modeChangeInFlight_eq_true_iff (v : Nibble) (s : State) :
    modeChangeInFlight v s = true ↔
      v.extractLsb' 0 3 ≠ s.cmds.cmd1F.extractLsb' 0 3 ∧
        (s.sio.siof = true ∨ s.sio.sbFull = true ∨ s.sio.srFull = true) := by
  simp [modeChangeInFlight, or_assoc]

/-- A command write keeps the request and SCKOUT. -/
theorem commandTransfer_req_sckOut (v : Nibble) (s : State) :
    (commandTransfer v s).req = s.sio.req ∧ (commandTransfer v s).sckOut = s.sio.sckOut := by
  unfold commandTransfer
  split
  · exact ⟨rfl, rfl⟩
  · split
    · exact ⟨rfl, rfl⟩
    · split <;> exact ⟨rfl, rfl⟩

theorem advance_setSf_lost (s : State) (p q : Serial) (c : Commands) (l : BitVec 6) (n : Nat) :
    advance 2#12 ((((((s.setSio p).setCmds c).setSio q).setIntl l).setFreeCount n).setSf true) =
      { s with pc := s.pc + 2, sf := true, cmds := c, sio := q, intl := l, freeCount := n } := by
  rw [advance_setSf]
  simp only [State.setSio, State.setCmds, State.setIntl, State.setFreeCount]
  rfl

/-- Settles O23: the command is written over the transfer's registers, and lost with them on a mode change in flight. -/
theorem outputSerialCommandResults : Obligations.OutputSerialCommandResults := by
  unfold Obligations.OutputSerialCommandResults
  refine ⟨fun s v i p hi hmode hp => ?_, encodes_of_decode3A rfl, encodes_of_decode3A rfl⟩
  obtain rfl : p = commandTransfer v s := hp.trans (commandTransfer_eq v s).symm
  have hwrite := writeSerialCommand_eq hmode s
  refine ⟨fun hkept => ?_, fun hchange hbusy => ?_⟩
  · have hflight : ¬modeChangeInFlight v s = true := by
      rw [modeChangeInFlight_eq_true_iff]
      rintro ⟨hchange, hbusy⟩
      obtain hsame | ⟨hsiof, hsb, hsr⟩ := hkept
      · exact hchange hsame
      · simp [hsiof, hsb, hsr] at hbusy
    rw [if_neg hflight] at hwrite
    rw [exec_outCommand hi hwrite, advance_setSf]
    rfl
  · rw [if_pos ((modeChangeInFlight_eq_true_iff v s).mpr ⟨hchange, hbusy⟩), scrambleSerial_frame] at hwrite
    obtain ⟨hreq, hsck⟩ := commandTransfer_req_sckOut v s
    obtain ⟨hsiof, hsef, hwaiting, hsckOut, hunspec⟩ := scrambleSerial_sio (commandWritten v s)
    refine ⟨_, (scrambleSerial (commandWritten v s)).intl, (scrambleSerial (commandWritten v s)).freeCount, ?_, hsiof,
      hsef, hwaiting, hsckOut.trans hsck, hunspec, fun j hj => ?_⟩
    · exact (exec_outCommand hi hwrite).trans (congrArg Host.Outcome.next (advance_setSf_lost s _ _ _ _ _))
    · have hbit := scrambleSerial_bit (commandWritten v s) hj
      have hreq' : (commandWritten v s).sio.req = s.sio.req := hreq
      rw [hreq', ← Bool.and_assoc] at hbit
      exact hbit

end Sys2Proof.Machine
end

section
/-! The initialization operation: what it leaves, whenever it strikes; and the RAM words that a step writes and a RESET
inside it frees. -/

namespace Sys2Proof.Machine

variable {s t u : State}

/-! ## What the initialization operation leaves (R402, R404, R405) -/

/-- The pins while the serial port is idle and the latches of R8 and R9 are released: the outside levels. -/
theorem edgePins_of_released (h8 : s.ports.r8 = 0xF#4) (h9 : s.ports.r9 = 0b111#3) (hsck : s.sio.sckOut = true) :
    edgePins s =
      { r82 := s.env.r8.getLsbD 2, r80 := s.env.r8.getLsbD 0, r83 := s.env.r8.getLsbD 3, r81 := s.env.r8.getLsbD 1,
        r92 := s.env.r9.getLsbD 2 } := by
  have hr8 : pinsR8 s = s.env.r8 := by
    rw [pinsR8, h8]
    exact BitVec.allOnes_and
  have hr9 : (pinsR9 s).getLsbD 2 = s.env.r9.getLsbD 2 := by
    rw [(pinsR9_bits s).1, levelSck, h9, hsck, ite_self, Bool.and_true]
    exact Bool.true_and _
  rw [edgePins, hr8, hr9]

theorem resetMachine_prev (s : State) :
    (resetMachine s).prev =
      { r82 := s.env.r8.getLsbD 2, r80 := s.env.r8.getLsbD 0, r83 := s.env.r8.getLsbD 3, r81 := s.env.r8.getLsbD 1,
        r92 := s.env.r9.getLsbD 2 } :=
  edgePins_of_released rfl rfl rfl

theorem resetLevel_high {c : IoCode} (h : c = .aa ∨ c = .ae ∨ c = .af) : resetLevel c = 0xF#4 := by
  obtain rfl | rfl | rfl := h <;> rfl

theorem resetLevel_low {c : IoCode} (h : c = .ah ∨ c = .ai) : resetLevel c = 0x0#4 := by
  obtain rfl | rfl := h <;> rfl

theorem dividerFields_append (p : Bool) :
    (0#18 ++ BitVec.ofBool p).extractLsb' 1 18 = 0#18 ∧ (0#18 ++ BitVec.ofBool p).getLsbD 0 = p := by
  cases p <;> exact ⟨rfl, rfl⟩

theorem resetMachine_afterReset (s : State) : AfterReset s (resetMachine s) where
  pc := rfl
  sf := rfl
  interrupts := ⟨rfl, rfl, rfl⟩
  divider := (dividerFields_append _).1
  cmds := rfl
  ports := ⟨rfl, rfl, rfl, rfl, rfl⟩
  ports_high h := ⟨resetLevel_high h, resetLevel_high h, resetLevel_high h⟩
  ports_low h := ⟨resetLevel_low h, resetLevel_low h, resetLevel_low h⟩
  count := ⟨rfl, rfl⟩
  serial := rfl
  prev := resetMachine_prev s
  chip := ⟨rfl, rfl, rfl⟩
  opened := ⟨s.freeCount, rfl, rfl, rfl, rfl, rfl, rfl, rfl, rfl, (dividerFields_append _).2⟩

/-- `AfterReset` does not speak of RAM or of the count of free values. -/
theorem AfterReset.of_ram (h : AfterReset s t) (m : Memory 4) (n : Nat) :
    AfterReset s ((t.setRam m).setFreeCount n) :=
  ⟨h.pc, h.sf, h.interrupts, h.divider, h.cmds, h.ports, h.ports_high, h.ports_low, h.count, h.serial, h.prev, h.chip,
    h.opened⟩

/-- It does not speak of the outside levels after the reset. -/
theorem AfterReset.of_levels (h : AfterReset s t) (e : Env) (es : List Env) :
    AfterReset s ((t.setEnv e).setInputs es) :=
  ⟨h.pc, h.sf, h.interrupts, h.divider, h.cmds, h.ports, h.ports_high, h.ports_low, h.count, h.serial, h.prev, h.chip,
    h.opened⟩

/-- It speaks of the chip and the outside levels before the reset alone. -/
theorem AfterReset.of_source (h : AfterReset u t) (hchip : u.chip = s.chip) (henv : u.env = s.env) :
    AfterReset s t := by
  obtain ⟨hrom, hpart, hcode⟩ := chip_eq_iff.mp hchip
  obtain ⟨hpc, hsf, hint, hdivider, hcmds, hports, hhigh, hlow, hcount, hserial, hprev, hkept, hopened⟩ := h
  rw [hcode] at hhigh hlow hkept
  rw [hrom, hpart] at hkept
  rw [henv] at hprev
  exact ⟨hpc, hsf, hint, hdivider, hcmds, hports, hhigh, hlow, hcount, hserial, hprev, hkept, hopened⟩

theorem afterReset_nextEnv (h : AfterReset s t) : AfterReset s (nextEnv t) := by
  rw [nextEnv_frame]
  exact h.of_levels _ _

theorem powerUpMachine_afterReset (s : State) : AfterReset s (powerUpMachine s) := by
  rw [powerUpMachine_frame]
  exact (resetMachine_afterReset s).of_ram _ _

/-! ## RAM after a reset -/

theorem nextEnv_ram (s : State) : (nextEnv s).ram = s.ram := by
  rw [nextEnv_frame]
  rfl

theorem memRead_nextEnv (s : State) (a : RamAddr) : memRead (nextEnv s) a = memRead s a := by
  rw [nextEnv_frame, memRead_setInputs, memRead_setEnv]

/-- After a power-up every word holds the free value of its own index. -/
theorem memRead_powerUpMachine (s : State) (a : RamAddr) :
    memRead (powerUpMachine s) a = Config.freeNibble (s.freeCount + 7 + ramIndex s a) :=
  freeRam_read _ _ _ (ramIndex_lt s a)

/-! The step in which RESET strikes (R400, R401, R414) -/

theorem step_of_reset (h : s.env.event = .reset) : step s = .next (nextEnv (resetMachine s)) := by
  simp [step, h]

theorem step_of_powerUp (h : s.env.event = .powerUp) : step s = .next (nextEnv (powerUpMachine s)) := by
  simp [step, h]

theorem step_of_resetInStep (h : s.env.event = .resetInStep) : step s = .next (nextEnv (abandonStep s)) := by
  simp [step, h]

/-- Settles O56: `resetMachine` keeps RAM, and a power-up is a reset over a RAM of free values. -/
theorem resetOperation : Obligations.ResetOperation := by
  unfold Obligations.ResetOperation
  refine ⟨fun s hevent => ?_, fun s hevent => ?_⟩
  · exact ⟨_, step_of_reset hevent, afterReset_nextEnv (resetMachine_afterReset s), nextEnv_ram _⟩
  · refine ⟨_, s.freeCount + 7, step_of_powerUp hevent, afterReset_nextEnv (powerUpMachine_afterReset s), fun a => ?_⟩
    rw [memRead_nextEnv, memRead_powerUpMachine]

/-! ## The words that parts of a step write (R401) -/

theorem part_of_chip (h : t.chip = s.chip) : t.part = s.part := by
  obtain ⟨-, hpart, -⟩ := chip_eq_iff.mp h
  exact hpart

theorem memRead_setRam_of_chip (h : t.chip = s.chip) (a : RamAddr) : memRead (s.setRam t.ram) a = memRead t a := by
  unfold memRead ramIndex
  rw [part_of_chip h]
  rfl

theorem ramIndex_of_chip (h : t.chip = s.chip) (a : RamAddr) : ramIndex t a = ramIndex s a := by
  rw [ramIndex, part_of_chip h, ramIndex]

/-- From `s` to `t` on one chip, no RAM word changes but those in `written`. -/
structure WritesOnly (written : List RamAddr) (s t : State) : Prop where
  chip : t.chip = s.chip
  words : OnlyWords s t.ram written

theorem WritesOnly.of_ram (hchip : t.chip = s.chip) (hram : t.ram = s.ram) : WritesOnly [] s t :=
  ⟨hchip, fun a _ => by rw [hram]; rfl⟩

theorem WritesOnly.trans {ws vs : List RamAddr} (h : WritesOnly ws s t) (h' : WritesOnly vs t u) :
    WritesOnly (ws ++ vs) s u := by
  refine ⟨h'.chip.trans h.chip, fun a ha => ?_⟩
  have hfirst := h.words a fun w hw => ha w (List.mem_append_left vs hw)
  have hsecond := h'.words a fun w hw => by
    rw [ramIndex_of_chip h.chip, ramIndex_of_chip h.chip]
    exact ha w (List.mem_append_right ws hw)
  rw [memRead_setRam_of_chip h.chip] at hfirst
  rw [memRead_setRam_of_chip h'.chip] at hsecond
  rw [memRead_setRam_of_chip (h'.chip.trans h.chip), hsecond, hfirst]

/-- A part of a step that leaves RAM adds no word. -/
theorem WritesOnly.trans_ram {ws : List RamAddr} (h : WritesOnly ws s t) (hchip : u.chip = t.chip)
    (hram : u.ram = t.ram) : WritesOnly ws s u := by
  have hboth := h.trans (.of_ram hchip hram)
  rwa [List.append_nil] at hboth

theorem exec_writesOnly {i : Instr} (h : exec i s = .next t) : WritesOnly (instrWords i s) s t := by
  obtain ⟨words, hwords, hram⟩ := exec_ram h
  refine ⟨exec_chip h, fun a ha => ?_⟩
  rw [hram, ← writeWords_frame]
  refine memRead_writeWords_of_ne fun w hw => ha w.1 ?_
  rw [← hwords]
  exact List.mem_map_of_mem hw

theorem tick_ram (s : State) : (tick s).ram = s.ram := by
  rw [tick_frame]

theorem ticks_ram_chip (n : Nat) (s : State) : (ticks n s).ram = s.ram ∧ (ticks n s).chip = s.chip := by
  induction n with
  | zero => exact ⟨rfl, rfl⟩
  | succ n ih =>
    rw [ticks_succ_eq_tick, tick_ram, tick_chip]
    exact ih

theorem countOperation_writesOnly (ch : Channel) (s : State) :
    WritesOnly (tripleWords (counterAddr ch)) s (countOperation ch s) := by
  obtain ⟨m, l, hop, -, honly, -⟩ := exists_countOperation_eq ch s
  refine ⟨countOperation_chip s ch, ?_⟩
  rw [hop, State.setIntl_ram, (clearCount_portSide_ram _ ch).2]
  exact honly

/-- A count operation and its cycle. -/
theorem tick_countOperation_writesOnly (ch : Channel) (s : State) :
    WritesOnly (tripleWords (counterAddr ch)) s (tick (countOperation ch s)) :=
  (countOperation_writesOnly ch s).trans_ram (tick_chip _) (tick_ram _)

theorem countRequests_writesOnly (fuel : Nat) (s : State) :
    WritesOnly (countWords fuel s) s (countRequests fuel s) := by
  induction fuel generalizing s with
  | zero => exact .of_ram rfl rfl
  | succ fuel ih =>
    unfold countWords countRequests
    split
    · exact (tick_countOperation_writesOnly .one s).trans (ih _)
    · split
      · exact (tick_countOperation_writesOnly .two s).trans (ih _)
      · exact .of_ram rfl rfl

theorem afterInstruction_writesOnly (n : Nat) (s : State) :
    WritesOnly (countWords countBound (ticks n s)) s (afterInstruction n s) := by
  obtain ⟨hram, hchip⟩ := ticks_ram_chip n s
  exact (WritesOnly.of_ram hchip hram).trans (countRequests_writesOnly countBound (ticks n s))

theorem acceptInterrupt_writesOnly (f : Factor) (s : State) : WritesOnly (saveWords s) s (acceptInterrupt f s) := by
  refine ⟨acceptInterrupt_chip s f, ?_⟩
  rw [acceptInterrupt_eq]
  exact onlyWords_stackSave s s.pc (flagWord s)

theorem decisionPoint_writesOnly (h : decisionPoint s = .next t) : WritesOnly (acceptWords s) s t := by
  obtain ⟨hnone, rfl⟩ | ⟨f, hsome, -, rfl⟩ := decisionPoint_next h
  · rw [acceptWords, hnone]
    exact .of_ram rfl rfl
  · obtain ⟨hram, hchip⟩ := ticks_ram_chip 2 (acceptInterrupt f s)
    rw [acceptWords, hsome]
    exact (acceptInterrupt_writesOnly f s).trans_ram hchip hram

/-- The instruction, the count operations and the acceptance, in the order of R315. -/
theorem step_writesOnly {i : Instr} (hrun : s.env.event = .run) (hfetch : fetch s = .ok i) (hexec : exec i s = .next u)
    (h : step s = .next t) : WritesOnly (stepWords i s u) s t := by
  rw [step_of_exec_next hrun hfetch hexec] at h
  obtain ⟨v, hdecide, rfl⟩ := completeStep_next h
  exact (((exec_writesOnly hexec).trans (afterInstruction_writesOnly _ u)).trans
    (decisionPoint_writesOnly hdecide)).trans_ram (nextEnv_chip v) (nextEnv_ram v)

/-! ## A RESET inside the step (R401, R404, log 7) -/

theorem freeWords_chip_env (words : List RamAddr) (s : State) :
    (freeWords words s).chip = s.chip ∧ (freeWords words s).env = s.env := by
  rw [freeWords_frame]
  exact ⟨rfl, rfl⟩

theorem abandonStep_afterReset (s : State) : AfterReset s (abandonStep s) := by
  obtain h | ⟨i, u, -, -, -, h⟩ := abandonStep_cases s
  · rw [h]
    exact powerUpMachine_afterReset s
  · obtain ⟨hchip, henv⟩ := freeWords_chip_env (stepWords i s u)
      (s.setFreeCount (afterInstruction (instrCycles i) u).freeCount)
    rw [h]
    exact (resetMachine_afterReset _).of_source hchip henv

theorem acceptsAtLevelF_eq_true_iff (s : State) :
    acceptsAtLevelF s = true ↔ pendingFactor s ≠ none ∧ spw s = 0xF := by
  rw [acceptsAtLevelF, Bool.and_eq_true, Option.isSome_iff_ne_none, beq_iff_eq]
  rfl

/-- Where the step has a meaning, the words it was writing are freed. -/
theorem abandonStep_of_meaning {i : Instr} (hfetch : fetch s = .ok i) (hexec : exec i s = .next u)
    (hlevel : acceptsAtLevelF (afterInstruction (instrCycles i) u) = false) :
    abandonStep s =
      resetMachine
        (freeWords (stepWords i s u) (s.setFreeCount (afterInstruction (instrCycles i) u).freeCount)) := by
  simp [abandonStep, hfetch, hexec, hlevel]

theorem memRead_resetMachine (s : State) (a : RamAddr) : memRead (resetMachine s) a = memRead s a := rfl

/-- Settles O57: each part of a step writes the words named for it, and `abandonStep` frees these, or all of RAM. -/
theorem resetInsideAStep : Obligations.ResetInsideAStep := by
  unfold Obligations.ResetInsideAStep
  refine ⟨fun i s t hexec => (exec_writesOnly hexec).words,
    fun s i u t hrun hfetch hexec hstep => (step_writesOnly hrun hfetch hexec hstep).words, fun s hevent => ?_⟩
  refine ⟨_, step_of_resetInStep hevent, afterReset_nextEnv (abandonStep_afterReset s), ?_, fun hnomeaning => ?_⟩
  · rintro i u w hfetch hexec rfl hlevel
    have hnot : ¬acceptsAtLevelF (afterInstruction (instrCycles i) u) = true := by
      rw [acceptsAtLevelF_eq_true_iff]
      rintro ⟨hpending, hspw⟩
      exact hlevel.elim hpending fun hne => hne hspw
    have habandon := abandonStep_of_meaning hfetch hexec (Bool.eq_false_iff.mpr hnot)
    have hchip : (nextEnv (abandonStep s)).chip = s.chip := (nextEnv_chip _).trans (abandonStep_chip s)
    refine ⟨fun a ha => ?_, fun a ha => ?_⟩
    · rw [memRead_setRam_of_chip hchip, memRead_nextEnv, habandon, memRead_resetMachine]
      exact memRead_freeWords (s.setFreeCount _) _ a ha
    · rw [memRead_nextEnv, habandon, memRead_resetMachine]
      exact memRead_freeWords_mem (s.setFreeCount _) _ a ⟨a, ha, rfl⟩
  · obtain hpower | ⟨i, u, hfetch, hexec, hlevel, -⟩ := abandonStep_cases s
    · refine ⟨s.freeCount + 7, fun a => ?_⟩
      rw [memRead_nextEnv, hpower, memRead_powerUpMachine]
    · have haccepts := (acceptsAtLevelF_eq_true_iff _).mpr (hnomeaning i u _ hfetch hexec rfl)
      exact absurd (haccepts.symm.trans hlevel) Bool.true_eq_false.mp

end Sys2Proof.Machine
end
